-- ==== Sys2Proof/Word.lean ====
section
/-! DEFINITION. The word types of the LX8: the byte of the host link and of a recovered
character, and the channel number CH0 to CH7 (00_scope.md, section 1.4). -/

namespace Sys2Proof

/-- One byte of the host link, of a record or of a character value. -/
abbrev Byte := BitVec 8

/-- A channel, CH0 to CH7. A command that names a channel can name no other. -/
abbrev Channel := Fin 8

end Sys2Proof
end

