-- ==== Sys2Proof/Syntax.lean ====
section
/-! DEFINITION. The commands of the LX8, one constructor per row of spec/opcode_table.json, and
the request frame, the shape in which the host's own operands arrive (R179). -/

namespace Sys2Proof

/-- What caused a hardware reset (R154, R170). -/
inductive ResetCause
  | power
  | pin
  deriving DecidableEq, Repr

/-- A request frame that has passed its check: the header fields, the body and the check value as
received (R173, R179). -/
structure Frame where
  kind : Byte
  tag : Byte
  channel : Byte
  body : List Byte
  check : BitVec 16
  deriving DecidableEq, Repr

/-- The commands: the rows of the table, in its order.

The twenty-one request rows take the frame at the head of the inbox (R174); their operands are that
frame's channel field and body, so the constructors carry none. A row of one channel carries the
channel. A row by which something outside the device acts at a moment of its own choosing
(a line input changing, a byte arriving on the link) carries the sampler ticks that have `elapsed`
since the command before it. -/
inductive Instr
  /-- HELLO (R155). -/
  | hello
  /-- TIME (R156). -/
  | time
  /-- SET_RATES (R4). -/
  | setRates
  /-- GET_RATES (R5). -/
  | getRates
  /-- CONFIGURE (R158). -/
  | configure
  /-- GET_CONFIG (R160). -/
  | getConfig
  /-- SET_GIVEN (R10). -/
  | setGiven
  /-- GET_GIVEN (R11). -/
  | getGiven
  /-- ACQUIRE (R24). -/
  | acquire
  /-- STATUS (R161). -/
  | status
  /-- STATS (R163). -/
  | stats
  /-- POOL (R164). -/
  | pool
  /-- TAKE (R129). -/
  | take
  /-- FETCH (R133). -/
  | fetch
  /-- RELEASE (R134). -/
  | release
  /-- CLOSE (R103). -/
  | close
  /-- PURGE (R118). -/
  | purge
  /-- CREDIT (R148). -/
  | credit
  /-- RESET_CHANNEL (R166). -/
  | resetChannel
  /-- RESTART (R168). -/
  | restart
  /-- UNKNOWN_KIND (R174). -/
  | unknownKind
  /-- FRAME_RECEIVED (R173). -/
  | frameReceived
  /-- LENGTH_DISCARD (R172). -/
  | lengthDiscard
  /-- RECEIVE_TIMEOUT (R172). -/
  | receiveTimeout
  /-- RESPONSE_SEND (R177). -/
  | responseSend
  /-- NOTICE_SEND (R149). -/
  | noticeSend
  /-- SOFT_RESTART (R169). -/
  | softRestart
  /-- HARDWARE_RESET (R170): power-up, or the RESET pin asserted. -/
  | hardwareReset (cause : ResetCause)
  /-- TIME_WRAP (R70). -/
  | timeWrap
  /-- LINE_INPUT_CHANGE (R72): the raw input of channel `c` changes level, `elapsed` ticks on. -/
  | lineInputChange (c : Channel) (elapsed : Nat)
  /-- FILTERED_EDGE (R74). -/
  | filteredEdge (c : Channel)
  /-- GATHER_QUIET_EXPIRY (R27). -/
  | gatherQuietExpiry (c : Channel)
  /-- TRIAL_START (R51). -/
  | trialStart
  /-- RATE_ESTIMATE (R55). -/
  | rateEstimate
  /-- CANDIDATE_EVALUATED (R65). -/
  | candidateEvaluated
  /-- TRIAL_COMPLETE (R66). -/
  | trialComplete
  /-- FALSE_START (R79). -/
  | falseStart (c : Channel)
  /-- CHARACTER_EVENT (R82). -/
  | characterEvent (c : Channel)
  /-- BREAK_EVENT (R81). -/
  | breakEvent (c : Channel)
  /-- GAP_EXPIRY (R92). -/
  | gapExpiry (c : Channel)
  /-- HOLDOVER_EXPIRY (R43). -/
  | holdoverExpiry (c : Channel)
  /-- DORMANT_EXPIRY (R44). -/
  | dormantExpiry (c : Channel)
  /-- LEASE_EXPIRY (R136). -/
  | leaseExpiry (c : Channel)
  /-- RECEIVED_BYTE (R172): `b` arrives on the link, `elapsed` ticks on; `scsLow` says whether SCS
  is low, which matters in the SPI selection alone (R171). -/
  | receivedByte (elapsed : Nat) (b : Byte) (scsLow : Bool)
  /-- FRAME_SENT_WHOLE (R177). -/
  | frameSentWhole
  /-- RESET_DEASSERTED (R170): the levels of LSEL1 and LSEL0, true for high. -/
  | resetDeasserted (lsel1 lsel0 : Bool)
  deriving DecidableEq, Repr

end Sys2Proof
end

