-- ==== Sys2Proof/Decode.lean ====
section
/-! DEFINITION. Reading a command from a word. The table of this block gives no row any bits, so no
word spells a command. What the block does decode is the kind code of a request frame (R179). -/

namespace Sys2Proof

/-- The command that a word of the table's bits spells. No row of spec/opcode_table.json carries
bits, so there is none. -/
def decodeTableWord (_nbits _w : Nat) : Option Instr := none

/-- The request command that a frame's kind code names (the table of R179); a code not listed names
UNKNOWN_KIND (R174). -/
def requestOf (kind : Byte) : Instr :=
  match kind.toNat with
  | 0x01 => .hello
  | 0x02 => .time
  | 0x03 => .setRates
  | 0x04 => .getRates
  | 0x05 => .configure
  | 0x06 => .getConfig
  | 0x07 => .setGiven
  | 0x08 => .getGiven
  | 0x09 => .acquire
  | 0x0A => .status
  | 0x0B => .stats
  | 0x0C => .pool
  | 0x0D => .take
  | 0x0E => .fetch
  | 0x0F => .release
  | 0x10 => .close
  | 0x11 => .purge
  | 0x12 => .credit
  | 0x13 => .resetChannel
  | 0x14 => .restart
  | _ => .unknownKind

end Sys2Proof
end

