-- ==== Sys2Proof/Config.lean ====
section
/-! DEFINITION. What the manual leaves to the part: the values it does not fix. They have no body,
so nothing can be proved of which value they are (notes/assumptions/14.md and 26.md). -/

namespace Sys2Proof

/-- R77 rounds the nominal period to the nearest 1/256 tick at ALIGN entry and does not say which
way an exact half goes. For each nominal rate this says whether a half goes up. Rates with an exact
half exist in the table's range (524288 bit/s is one). -/
opaque Config.nominalHalfUp : Nat → Bool

/-- R55 divides 48,000,000 by the mean of a cluster of intervals and gives no rate for a mean of 0.
For each number of such intervals this is the estimate. -/
opaque Config.rateOfZeroMean : Nat → Nat

end Sys2Proof
end

