-- ==== Sys2Proof/Machine/Types.lean ====
section
/-! DEFINITION. The pieces the state of the LX8 is made of, block by block. Plain data only. -/

namespace Sys2Proof.Machine

/-! ### Lines and profiles (chapter 1) -/

/-- A logic level of a pin or of a filtered line. -/
inductive Level
  | low
  | high
  deriving DecidableEq, Repr

/-- Parity of a character format (R1). -/
inductive Parity
  | none
  | even
  | odd
  | mark
  | space
  deriving DecidableEq, Repr

/-- Polarity of a line (R1). -/
inductive Polarity
  | normal
  | inverted
  deriving DecidableEq, Repr

/-- A character format: data bits 5..8, parity, stop bits 1..2 (R1, section 1.3). -/
structure Format where
  dataBits : Nat
  parity : Parity
  stopBits : Nat
  deriving DecidableEq, Repr

/-- The five line fields of a profile (R1). -/
structure LineFields where
  rate : Fin 16
  format : Format
  polarity : Polarity
  deriving DecidableEq, Repr

/-- Framing mode (R2). -/
inductive FramingMode
  | gap
  | delim
  | length
  deriving DecidableEq, Repr

/-- The seven framing fields of a profile (R2). The delimiter list holds the written delimiters
alone; an unused slot, and an absent start character, read as 00h (R10). -/
structure FramingFields where
  mode : FramingMode
  gapLimit : Nat
  delimiters : List Byte
  delimiterKept : Bool
  startChar : Option Byte
  recordLength : Nat
  maxRecordLength : Nat
  deriving DecidableEq, Repr

/-- The five search fields of a given profile (R7), each mask a set with the bits of R180. -/
structure SearchFields where
  rateMask : BitVec 16
  dataMask : BitVec 4
  parityMask : BitVec 5
  stopMask : BitVec 2
  polaritySearch : Bool
  deriving DecidableEq, Repr

/-- A given profile (R7). -/
structure GivenProfile where
  line : LineFields
  search : SearchFields
  framing : FramingFields
  deriving DecidableEq, Repr

/-- A working profile (R12). -/
structure WorkingProfile where
  line : LineFields
  nominal : Nat
  framing : FramingFields
  confirmed : Bool
  epoch : BitVec 8
  deriving DecidableEq, Repr

/-! ### The channel configuration (R157) -/

/-- The mode field of the configuration. -/
inductive Mode
  | off
  | listen
  deriving DecidableEq, Repr

/-- Polarity of a HOLD output (R122). -/
inductive HoldPolarity
  | activeLow
  | activeHigh
  deriving DecidableEq, Repr

/-- One channel configuration record (R157); times in the units of the record. -/
structure ChannelConfig where
  mode : Mode
  glitchLimit : Nat
  gatherTarget : Nat
  gatherQuietMs : Nat
  minCharacters : Nat
  candidateBudget : Nat
  retryLimit : Nat
  tolerance : Nat
  windowLength : Nat
  errorThreshold : Nat
  holdoverMs : Nat
  dormantS : Nat
  segmentCap : Nat
  highMark : Nat
  lowMark : Nat
  holdEnable : Bool
  holdPolarity : HoldPolarity
  leaseTimeoutMs : Nat
  deriving DecidableEq, Repr

/-! ### The Trial Unit (chapter 3) -/

/-- One entry of a capture ring: the level after the edge and the ticks since the edge before it,
saturated at 2^24 − 1 (R75). -/
structure CaptureEntry where
  level : Level
  interval : Nat
  deriving DecidableEq, Repr

/-- A candidate: the five line fields and the nominal rate it carries (R56). -/
structure Candidate where
  line : LineFields
  nominal : Nat
  deriving DecidableEq, Repr

/-- The six outcomes of a trial (R66). -/
inductive TrialOutcome
  | fit
  | noRate
  | noCandidate
  | noFit
  | budget
  | abandoned
  deriving DecidableEq, Repr

/-- A trial report (R67); the completion time is a device time. -/
structure TrialReport where
  outcome : TrialOutcome
  evaluated : Nat
  estimate : Option Nat
  chosen : Option Candidate
  completed : BitVec 32
  deriving DecidableEq, Repr

/-- The copies made at trial start (R51). -/
structure Snapshot where
  ring : List CaptureEntry
  idleLevel : Level
  rates : Vector Nat 16
  given : LineFields
  search : SearchFields
  verifyFirst : Option Candidate
  tolerance : Nat
  minCharacters : Nat
  candidateBudget : Nat
  deriving DecidableEq, Repr

/-- What a trial has come to, before it is handed back: the outcome and the candidate that fits. -/
structure Verdict where
  outcome : TrialOutcome
  chosen : Option Candidate
  deriving DecidableEq, Repr

/-- The trial in service (R47, R53). The candidate list is absent until the list phase is done, the
verdict until the trial has come to its end. -/
structure Trial where
  channel : Channel
  snapshot : Snapshot
  estimate : Option Nat
  candidates : Option (List Candidate)
  position : Nat
  verdict : Option Verdict
  deriving DecidableEq, Repr

/-- The Trial Unit (R47). While it is free there is no snapshot, no candidate list and no position:
they are parts of the trial in service. -/
structure TrialUnit where
  service : Option Trial
  queue : List Channel
  deriving DecidableEq, Repr

/-! ### The Channel Controller (chapter 2) -/

/-- The nine lock states (R18). -/
inductive LockState
  | off
  | quiet
  | gather
  | queued
  | trial
  | align
  | locked
  | degraded
  | failed
  deriving DecidableEq, Repr

/-- The Channel Controller's own state (R19). A running timer is the tick of its expiry. -/
structure Controller where
  lock : LockState
  retryCount : Nat
  windowChars : Nat
  windowErrors : Nat
  windowLength : Nat
  gatherTarget : Nat
  gatherQuietMs : Nat
  gatherTimer : Option Nat
  holdoverTimer : Option Nat
  dormantTimer : Option Nat
  report : Option TrialReport
  deriving DecidableEq, Repr

/-! ### The Line Sampler (chapter 4) -/

/-- A filtered edge: the tick it is dated at, and the level after it (R72). -/
structure Edge where
  tick : Nat
  level : Level
  deriving DecidableEq, Repr

/-- The decode state (R78). HUNT knows when its hunt began, SAMPLING and SPACE_HELD the tick of
the start edge and the tracked period at it, WAIT_MARK the first tick at or after the break instant.
-/
inductive Decode
  | stopped
  | hunt (since : Nat)
  | sampling (start period : Nat)
  | spaceHeld (start period : Nat)
  | waitMark (since : Nat)
  deriving DecidableEq, Repr

/-- The Line Sampler's state (R71). Periods are in 1/256 tick (R77). `edges` are the filtered edges
delivered since the start edge in hand (or since the hunt began), which fix the line level at every
sample position still to be read (R72, R80; DESIGN CHOICE, notes/assumptions/12.md). -/
structure Sampler where
  accepted : Level
  pendingChange : Option Nat
  quietReference : Nat
  lastCapture : Option Nat
  ring : List CaptureEntry
  idleLevel : Level
  trackedPeriod : Nat
  trackedOffset : Int
  decode : Decode
  edges : List Edge
  offsetCount : Nat
  offsetSum : Rat
  deriving DecidableEq, Repr

/-! ### The Record Framer (chapter 5) -/

/-- The causes of closure (R99). -/
inductive Cause
  | delim
  | gap
  | length
  | oversize
  | brk
  | close
  | halt
  | lockLoss
  | dormant
  deriving DecidableEq, Repr

/-- The progress of the open record (R88). Its stored bytes stand in its segments (R108); the
stored count is their number. -/
structure OpenRecord where
  hasDescriptor : Bool
  startTime : BitVec 32
  bytes : List Byte
  lost : Nat
  truncated : Bool
  suspect : Bool
  parityErrors : Nat
  framingErrors : Nat
  firstError : Option Nat
  preamble : Option Nat
  epoch : BitVec 8
  deriving DecidableEq, Repr

/-- The framer states (R88). OPEN carries the progress of the open record, so that a record is open
exactly in it. -/
inductive FramerState
  | idle
  | aligning
  | between
  | inRecord (r : OpenRecord)
  deriving DecidableEq, Repr

/-- An instant that need not fall on a tick: `num / den` ticks. The end of a character, the break
instant and the gap expiry are such instants (R81, R82, R91: the gap length is unrounded). -/
structure Instant where
  num : Nat
  den : Nat
  deriving DecidableEq, Repr

/-- The Record Framer's state (R88). -/
structure Framer where
  state : FramerState
  preamble : Nat
  gapTimer : Option Instant
  deriving DecidableEq, Repr

/-! ### The Record Store and the leases (chapters 6 and 7) -/

/-- A closed record: its descriptor (R105) and its bytes. -/
structure Record where
  channel : Channel
  seq : BitVec 32
  startTime : BitVec 32
  endTime : BitVec 32
  bytes : List Byte
  lost : Nat
  cause : Cause
  truncated : Bool
  suspect : Bool
  parityErrors : Nat
  framingErrors : Nat
  firstError : Option Nat
  preamble : Option Nat
  epoch : BitVec 8
  redelivery : Nat
  deriving DecidableEq, Repr

/-- Fill state (R120). -/
inductive Fill
  | low
  | high
  deriving DecidableEq, Repr

/-- A lease (R126); the timer is the tick of its expiry. -/
structure Lease where
  id : Nat
  records : List Record
  expiry : Nat
  deriving DecidableEq, Repr

/-- One channel's part of the Record Store and its lease slot (R107, R126). -/
structure ChannelStore where
  queue : List Record
  held : Nat
  nextSeq : BitVec 32
  lastDropped : Option (BitVec 32)
  fill : Fill
  hold : Bool
  lease : Option Lease
  lastExpired : Option Nat
  deriving DecidableEq, Repr

/-- The fifteen statistics of a channel (R162), in its order. -/
structure Statistics where
  recordsClosed : Nat
  recordsDropped : Nat
  bytesStored : Nat
  bytesLost : Nat
  parityErrors : Nat
  framingErrors : Nat
  breaks : Nat
  falseStarts : Nat
  fits : Nat
  failedTrials : Nat
  abandonedTrials : Nat
  degradedEntries : Nat
  releases : Nat
  discardedBeforeAlignment : Nat
  preambleBytes : Nat
  deriving DecidableEq, Repr

/-- Everything the device holds once for each channel. -/
structure Chan where
  config : ChannelConfig
  given : GivenProfile
  working : WorkingProfile
  pendingUpdate : Bool
  ctl : Controller
  sampler : Sampler
  framer : Framer
  store : ChannelStore
  stats : Statistics
  deriving DecidableEq, Repr

/-- The device-wide part of the Record Store (R107). -/
structure Pools where
  freeSegments : Nat
  freeDescriptors : Nat
  capRefusals : Nat
  poolRefusals : Nat
  descriptorRefusals : Nat
  deriving DecidableEq, Repr

/-! ### The Notice Unit (chapter 8) -/

/-- Why a window failed (R37). -/
inductive FailReason
  | errors
  | drift
  deriving DecidableEq, Repr

/-- Why a channel was released (R43, R44). -/
inductive ReleaseReason
  | holdover
  | dormant
  deriving DecidableEq, Repr

/-- Why the device started (R154). -/
inductive StartReason
  | power
  | pin
  | soft
  deriving DecidableEq, Repr

/-- The nine channel kinds, in slot order (R142). -/
inductive ChannelKind
  | locked
  | degraded
  | released
  | failed
  | profile
  | ready
  | fill
  | expired
  | dropped
  deriving DecidableEq, Repr

/-- The three device kinds, in slot order (R142). -/
inductive DeviceKind
  | started
  | linkError
  | pool
  deriving DecidableEq, Repr

/-- One of the 75 slots of the notice table (R142). -/
inductive Slot
  | chan (c : Channel) (kind : ChannelKind)
  | device (kind : DeviceKind)
  deriving DecidableEq, Repr

/-- The values a slot keeps between post and send (R144): those taken at post, and the
accumulators. -/
inductive NoticeValues
  | started (reason : StartReason) (revision : Nat)
  | linkError (crc length timeout overrun : Nat)
  | pool (failures : Nat)
  | locked (epoch : BitVec 8) (nominal : Nat) (format : Format) (regained : Bool)
  | degraded (reason : FailReason) (errors : Nat) (offset : Int)
  | released (reason : ReleaseReason)
  | failed (outcome : TrialOutcome) (retry : Nat)
  | profile (epoch : BitVec 8) (line : LineFields)
  | ready
  | fill (crossings : Nat)
  | expired (leaseId returned : Nat)
  | dropped (count : Nat)
  deriving DecidableEq, Repr

/-- A pending notice: its slot, the whole microseconds since RESET was deasserted at which the slot
became pending (the first-post time is their low 32 bits, R70; DEDUCED, notes/assumptions/13.md),
the occurrence count and the kind values (R142). -/
structure Notice where
  slot : Slot
  postedAt : Nat
  count : Nat
  values : NoticeValues
  deriving DecidableEq, Repr

/-- The Notice Unit (R142). A slot that is not in `pending` is idle; the list stands in the order in
which its slots became pending. -/
structure NoticeUnit where
  pending : List Notice
  credit : Nat
  nextSeq : BitVec 16
  deriving DecidableEq, Repr

/-! ### The Host Link Controller (chapter 10) -/

/-- The link selection (R171). -/
inductive LinkSelection
  | uart115200
  | uart921600
  | uart3000000
  | spi
  deriving DecidableEq, Repr

/-- The receiver states (R172). -/
inductive ReceiverState
  | hunt
  | sync2
  | header
  | body
  | check
  deriving DecidableEq, Repr

/-- The receiver: its state, the bytes of the frame in hand from the length on, in the order
received, and the tick at which the last of them (or the 5Ah) arrived (R172). -/
structure Receiver where
  state : ReceiverState
  buffer : List Byte
  lastByte : Nat
  deriving DecidableEq, Repr

/-- A response waiting in the response queue (R175). -/
structure Response where
  kind : Byte
  tag : Byte
  channel : Byte
  body : List Byte
  deriving DecidableEq, Repr

/-- One entry of the reply cache (R176). -/
structure CacheEntry where
  tag : Byte
  kind : Byte
  channel : Byte
  check : BitVec 16
  body : List Byte
  deriving DecidableEq, Repr

/-- The frame on the transmit path: its bytes, how many the host has clocked out of it (SPI), and
the tick at which it was started (R177). -/
structure Transmit where
  frame : List Byte
  clocked : Nat
  started : Nat
  deriving DecidableEq, Repr

/-- Where the device stands with a RESTART (R178): none taken; its response not yet sent whole;
sent whole, so that the soft restart takes effect. -/
inductive RestartPhase
  | idle
  | awaiting
  | due
  deriving DecidableEq, Repr

/-- The Host Link Controller (R171 to R178). `sdo` is the byte last shifted out on SDO. -/
structure HostLink where
  selection : LinkSelection
  receiver : Receiver
  inbox : List Frame
  responses : List Response
  cache : List CacheEntry
  transmit : Option Transmit
  sdo : Byte
  restart : RestartPhase
  deriving DecidableEq, Repr

/-! ### The Time Base (R70) -/

/-- The Time Base: the microsecond counter, the wrap count, and the sampler ticks since RESET was
deasserted, which date the edges and the timers (48 to the microsecond; DESIGN CHOICE,
notes/assumptions/27.md). -/
structure TimeBase where
  counter : BitVec 32
  wraps : BitVec 16
  ticks : Nat
  deriving DecidableEq, Repr

end Sys2Proof.Machine
end

