-- ==== Sys2Proof/Machine/ResetValues.lean ====
section
/-! DEFINITION. The value each block has after a hardware reset, as its chapter gives it; where the
manual gives none, the value is a DESIGN CHOICE (notes/assumptions/19.md). -/

namespace Sys2Proof.Machine

/-- R3: the rate table after a hardware reset. -/
def resetRates : Vector Nat 16 :=
  #v[300, 1200, 2400, 4800, 9600, 19200, 38400, 57600,
     115200, 230400, 460800, 921600, 0, 0, 0, 0]

/-- R7: the default line fields, index 4, 8N1, NORMAL. -/
def resetLine : LineFields :=
  { rate := 4, format := { dataBits := 8, parity := .none, stopBits := 1 }, polarity := .normal }

/-- R7: the default framing fields. -/
def resetFraming : FramingFields :=
  { mode := .gap, gapLimit := 4, delimiters := [], delimiterKept := false, startChar := none,
    recordLength := 2048, maxRecordLength := 2048 }

/-- R7: the default search fields: rate mask 0..11, data bits 7 and 8, all parities, both stop
counts, polarity search on. -/
def resetSearch : SearchFields :=
  { rateMask := 0x0FFF#16, dataMask := 0b1100#4, parityMask := 0b11111#5, stopMask := 0b11#2,
    polaritySearch := true }

/-- R7: the default given profile. -/
def resetGiven : GivenProfile :=
  { line := resetLine, search := resetSearch, framing := resetFraming }

/-- R12: the working profile after a hardware reset. -/
def resetWorking : WorkingProfile :=
  { line := resetLine, nominal := 9600, framing := resetFraming, confirmed := false, epoch := 0 }

/-- R157: the channel configuration after a hardware reset. -/
def resetConfig : ChannelConfig :=
  { mode := .off, glitchLimit := 4, gatherTarget := 128, gatherQuietMs := 100,
    minCharacters := 16, candidateBudget := 1280, retryLimit := 3, tolerance := 3,
    windowLength := 256, errorThreshold := 4, holdoverMs := 500, dormantS := 0, segmentCap := 64,
    highMark := 48, lowMark := 16, holdEnable := false, holdPolarity := .activeLow,
    leaseTimeoutMs := 2000 }

/-- R19: the Channel Controller after a hardware reset. -/
def resetController : Controller :=
  { lock := .off, retryCount := 0, windowChars := 0, windowErrors := 0, windowLength := 256,
    gatherTarget := 128, gatherQuietMs := 100, gatherTimer := none, holdoverTimer := none,
    dormantTimer := none, report := none }

/-- R71: the Line Sampler after a hardware reset, on a line that stands at `line` when RESET is
deasserted. The reset instant is tick 0. -/
def resetSampler (line : Level) : Sampler :=
  { accepted := line, pendingChange := none, quietReference := 0, lastCapture := none, ring := [],
    idleLevel := .high, trackedPeriod := 5000 * 256, trackedOffset := 0, decode := .stopped,
    edges := [], offsetCount := 0, offsetSum := 0 }

/-- R88: the Record Framer after every reset. -/
def resetFramer : Framer :=
  { state := .idle, preamble := 0, gapTimer := none }

/-- R107, R126: a channel's part of the store after every reset. -/
def resetChannelStore : ChannelStore :=
  { queue := [], held := 0, nextSeq := 0, lastDropped := none, fill := .low, hold := false,
    lease := none, lastExpired := none }

/-- R162: the statistics after every reset. -/
def resetStatistics : Statistics :=
  { recordsClosed := 0, recordsDropped := 0, bytesStored := 0, bytesLost := 0, parityErrors := 0,
    framingErrors := 0, breaks := 0, falseStarts := 0, fits := 0, failedTrials := 0,
    abandonedTrials := 0, degradedEntries := 0, releases := 0, discardedBeforeAlignment := 0,
    preambleBytes := 0 }

/-- One channel after a hardware reset, its line at `line`. -/
def resetChan (line : Level) : Chan :=
  { config := resetConfig, given := resetGiven, working := resetWorking, pendingUpdate := false,
    ctl := resetController, sampler := resetSampler line, framer := resetFramer,
    store := resetChannelStore, stats := resetStatistics }

/-- The eight channels after a hardware reset, each on its line. -/
def resetChans (lines : Vector Level 8) : Vector Chan 8 :=
  #v[resetChan lines[0], resetChan lines[1], resetChan lines[2], resetChan lines[3],
     resetChan lines[4], resetChan lines[5], resetChan lines[6], resetChan lines[7]]

/-- R47: the Trial Unit after a hardware reset and a soft restart. -/
def resetTrialUnit : TrialUnit := { service := none, queue := [] }

/-- R107: the pools and the device counters after a hardware reset. -/
def resetPools : Pools :=
  { freeSegments := 512, freeDescriptors := 256, capRefusals := 0, poolRefusals := 0,
    descriptorRefusals := 0 }

/-- R142: the Notice Unit after a hardware reset and a soft restart, before STARTED is posted. -/
def resetNotices : NoticeUnit := { pending := [], credit := 1, nextSeq := 0 }

/-- R172: the receiver after a hardware reset. -/
def resetReceiver : Receiver := { state := .hunt, buffer := [], lastByte := 0 }

/-- R171 to R178: the link after a hardware reset, with the selection its straps give. -/
def resetLink (selection : LinkSelection) : HostLink :=
  { selection := selection, receiver := resetReceiver, inbox := [], responses := [], cache := [],
    transmit := none, sdo := 0, restart := .idle }

/-- R70: the Time Base after a hardware reset. -/
def resetTime : TimeBase := { counter := 0, wraps := 0, ticks := 0 }

/-- R155: the part revision, which HELLO and STARTED report. -/
def partRevision : Nat := 3

/-- R154: the one pending notice of a device just started, posted at device time 0. -/
def startedNotice (reason : StartReason) : Notice :=
  { slot := .device .started, postedAt := 0, count := 1, values := .started reason partRevision }

end Sys2Proof.Machine
end

