-- ==== Sys2Proof/Machine/State.lean ====
section
/-! DEFINITION. The state of the LX8, the reasons a command can stop, and the state after reset. -/

namespace Sys2Proof.Machine

/-- The whole device, and the queue of commands that wait.

`resetAsserted` is the RESET pin, `resetCause` what caused the last hardware reset (R154),
`lineIn` the raw levels of LIN0 to LIN7. The HOLD pins, ATTN and HTX are views of this state
(`Flags.lean`), each computed from the fields that decide it. `pending` is the
model's own queue of commands (DESIGN CHOICE, notes/assumptions/27.md). -/
structure State where
  resetAsserted : Bool
  resetCause : ResetCause
  lineIn : Vector Level 8
  time : TimeBase
  rates : Vector Nat 16
  chans : Vector Chan 8
  trial : TrialUnit
  pools : Pools
  leaseCounter : Nat
  notices : NoticeUnit
  link : HostLink
  pending : List Instr
  deriving DecidableEq, Repr

/-- Faults of the device. There is none: the manual gives every command an effect in every state
(a request refused is answered with its result code, an event whose timer does not run does not
occur), so nothing raises a fault. -/
inductive Fault
  deriving DecidableEq, Repr

/-- Reasons why the model has no meaning for a command. -/
inductive Refusal
  /-- A command with no meaning in the model, by the name its row has. No command of this model
  answers it. It is safe: a run stops there, and nothing is claimed of what the device does. -/
  | notModelled (mnemonic : String)
  deriving DecidableEq, Repr

/-- The device right after the hardware reset of a power-up, RESET just deasserted: every block at
its reset value, STARTED (POWER) pending (R170). The manual gives no level for the line inputs and
the straps: this state has all eight lines high and LSEL1 and LSEL0 low
(notes/assumptions/2.md, a DESIGN CHOICE). -/
def State.reset : State :=
  { resetAsserted := false
    resetCause := .power
    lineIn := #v[.high, .high, .high, .high, .high, .high, .high, .high]
    time := resetTime
    rates := resetRates
    chans := resetChans #v[.high, .high, .high, .high, .high, .high, .high, .high]
    trial := resetTrialUnit
    pools := resetPools
    leaseCounter := 1
    notices := { resetNotices with pending := [startedNotice .power] }
    link := resetLink .uart115200
    pending := [] }

end Sys2Proof.Machine
end

