-- ==== Sys2Proof/Machine/Ops.lean ====
section
/-! DEFINITION. The operations the blocks share: reading and writing one channel, time, timers,
saturating counts, posting a notice, the pools, the fill state and HOLD. -/

namespace Sys2Proof.Machine

/-! ### Channels -/

/-- Channel `c` of the device. -/
def State.chan (s : State) (c : Channel) : Chan := s.chans[c.val]

/-- `s` with `f` applied to channel `c`. The one operation that writes a channel. -/
def State.modChan (s : State) (c : Channel) (f : Chan → Chan) : State :=
  { s with chans := s.chans.set c.val (f (s.chan c)) }

/-- `f` applied to all eight channels. -/
def mapChans (f : Chan → Chan) (v : Vector Chan 8) : Vector Chan 8 :=
  #v[f v[0], f v[1], f v[2], f v[3], f v[4], f v[5], f v[6], f v[7]]

/-- `f` on the Channel Controller of channel `c`. -/
def State.modCtl (s : State) (c : Channel) (f : Controller → Controller) : State :=
  s.modChan c fun k => { k with ctl := f k.ctl }

/-- `f` on the Line Sampler of channel `c`. -/
def State.modSampler (s : State) (c : Channel) (f : Sampler → Sampler) : State :=
  s.modChan c fun k => { k with sampler := f k.sampler }

/-- `f` on the Record Framer of channel `c`. -/
def State.modFramer (s : State) (c : Channel) (f : Framer → Framer) : State :=
  s.modChan c fun k => { k with framer := f k.framer }

/-- `f` on channel `c`'s part of the Record Store. -/
def State.modStore (s : State) (c : Channel) (f : ChannelStore → ChannelStore) : State :=
  s.modChan c fun k => { k with store := f k.store }

/-- `f` on the statistics of channel `c`. -/
def State.modStats (s : State) (c : Channel) (f : Statistics → Statistics) : State :=
  s.modChan c fun k => { k with stats := f k.stats }

/-- ALIGN, LOCKED and DEGRADED: the states in which the sampler decodes (R18). -/
def LockState.decoding : LockState → Bool
  | .align | .locked | .degraded => true
  | .off | .quiet | .gather | .queued | .trial | .failed => false

/-! ### Counts -/

/-- `a + b`, stopping at `top`. -/
def satAdd (top a b : Nat) : Nat := min top (a + b)

/-- A 32-bit count that stops at its greatest value (R87, R124, R162). -/
def count32 (a b : Nat) : Nat := satAdd 4294967295 a b

/-- An accumulator of a notice slot, which stops at 65535 (R145). -/
def count16 (a b : Nat) : Nat := satAdd 65535 a b

/-- A count that stops at 255 (R97, R143). -/
def count8 (a b : Nat) : Nat := satAdd 255 a b

/-! ### Time (R70) -/

/-- Sampler ticks in one microsecond. -/
def ticksPerMicrosecond : Nat := 48

/-- Sampler ticks in one second: the 48 MHz of the sampler clock. -/
def ticksPerSecond : Nat := 48000000

/-- The present instant, in sampler ticks since RESET was deasserted. -/
abbrev State.now (s : State) : Nat := s.time.ticks

/-- The device time of an instant given in ticks: the whole microsecond it falls in, less the wraps
(R70). -/
def deviceTime (tick : Nat) : BitVec 32 := BitVec.ofNat 32 (tick / ticksPerMicrosecond)

/-- The device time now. -/
def State.deviceNow (s : State) : BitVec 32 := deviceTime s.now

/-- The Time Base moved on to `tick`. The counter advances by one each microsecond, and the wrap
count each time the counter passes from its greatest value to 0 (R70). -/
def TimeBase.movedTo (t : TimeBase) (tick : Nat) : TimeBase :=
  let total := t.counter.toNat + (tick / ticksPerMicrosecond - t.ticks / ticksPerMicrosecond)
  { counter := BitVec.ofNat 32 total
    wraps := t.wraps + BitVec.ofNat 16 (total / 4294967296)
    ticks := tick }

/-- Time passes up to `tick`, if that is still to come (DESIGN CHOICE, notes/assumptions/4.md). -/
def State.advanceTo (s : State) (tick : Nat) : State :=
  if tick ≤ s.now then s else { s with time := s.time.movedTo tick }

/-- `elapsed` ticks pass. -/
def State.advanceBy (s : State) (elapsed : Nat) : State := s.advanceTo (s.now + elapsed)

/-- The expiry of a timer started now for `ms` milliseconds. -/
def State.expiryInMs (s : State) (ms : Nat) : Nat := s.now + ms * 48000

/-- The dormant timer as a start or restart leaves it: stopped when the configured dormant time
is 0 (R44). -/
def State.dormantStart (s : State) (c : Channel) : Option Nat :=
  let seconds := (s.chan c).config.dormantS
  if seconds = 0 then none else some (s.now + seconds * ticksPerSecond)

/-! ### Notices (R142, R143, R145) -/

/-- The values of a slot that is pending after a further post: an accumulator adds the post's
contribution, a value taken at post is replaced (R144, R145). -/
def NoticeValues.merge (old new : NoticeValues) : NoticeValues :=
  match old, new with
  | .linkError a b c d, .linkError a' b' c' d' =>
    .linkError (count16 a a') (count16 b b') (count16 c c') (count16 d d')
  | .pool a, .pool b => .pool (count16 a b)
  | .fill a, .fill b => .fill (count16 a b)
  | .dropped a, .dropped b => .dropped (count16 a b)
  | _, new => new

/-- The notice of a slot after a merged post: the first-post time and the place are kept (R143). -/
def Notice.merged (n : Notice) (v : NoticeValues) : Notice :=
  { n with count := count8 n.count 1, values := n.values.merge v }

/-- The table after a post to `slot` made `us` microseconds after RESET was deasserted: merged into
the slot's pending notice, or a new one at the end of the order of pending slots (R143). -/
def postTo (slot : Slot) (v : NoticeValues) (us : Nat) : List Notice → List Notice
  | [] => [{ slot := slot, postedAt := us, count := 1, values := v }]
  | n :: rest => if n.slot = slot then n.merged v :: rest else n :: postTo slot v us rest

/-- A post (R143). It is never refused and never lost. -/
def State.post (s : State) (slot : Slot) (v : NoticeValues) : State :=
  { s with notices :=
      { s.notices with pending := postTo slot v (s.now / ticksPerMicrosecond) s.notices.pending } }

/-- A post to a slot of channel `c`. -/
def State.postChan (s : State) (c : Channel) (kind : ChannelKind) (v : NoticeValues) : State :=
  s.post (.chan c kind) v

/-- Whether a slot is one of channel `c`'s nine. -/
def Slot.ofChannel (slot : Slot) (c : Channel) : Bool :=
  match slot with
  | .chan d _ => decide (d = c)
  | .device _ => false

/-- The withdrawal of channel `c`'s nine slots (R153). -/
def State.withdraw (s : State) (c : Channel) : State :=
  { s with notices :=
      { s.notices with pending := s.notices.pending.filter fun n => !n.slot.ofChannel c } }

/-- R154: the table is cleared, the credit becomes 1, the notice sequence counter 0, and STARTED is
posted. -/
def State.startedPost (s : State) (reason : StartReason) : State :=
  { s with notices := resetNotices }.post (.device .started) (.started reason partRevision)

/-! ### Fill state and HOLD (R120, R122) -/

/-- R120: the fill state that an evaluation gives. -/
def fillAfter (held high low : Nat) (fill : Fill) : Fill :=
  if high ≤ held then .high else if held ≤ low then .low else fill

/-- R122: HOLD is active exactly when it is enabled, the mode is LISTEN and the fill state HIGH. -/
def Chan.holdDue (k : Chan) : Bool :=
  k.config.holdEnable && decide (k.config.mode = .listen) && decide (k.store.fill = .high)

/-- The HOLD output of `c` set from the conditions of R122. -/
def State.setHold (s : State) (c : Channel) : State :=
  s.modChan c fun k => { k with store := { k.store with hold := k.holdDue } }

/-- R120: one evaluation of the fill state of `c`. A crossing posts FILL and sets HOLD. -/
def State.evaluateFill (s : State) (c : Channel) : State :=
  let k := s.chan c
  let fill := fillAfter k.store.held k.config.highMark k.config.lowMark k.store.fill
  if fill = k.store.fill then s
  else
    let s := s.modStore c fun st => { st with fill := fill }
    let s := s.postChan c .fill (.fill 1)
    s.setHold c

/-! ### The pools (R108, R109, R117) -/

/-- R108: a record with `n` stored bytes holds ⌈n / 32⌉ segments (notes/assumptions/20.md). -/
def segmentsOf (n : Nat) : Nat := (n + 31) / 32

/-- The segments a closed record holds. -/
def Record.segments (r : Record) : Nat := segmentsOf r.bytes.length

/-- The segments of a list of records. -/
def segmentSum (rs : List Record) : Nat := (rs.map Record.segments).sum

/-- The bytes of a list of records (queue bytes, R116). -/
def byteSum (rs : List Record) : Nat := (rs.map fun r => r.bytes.length).sum

/-- R117: the records `rs` of channel `c`, already taken from their place, are freed: their
segments and descriptors return to the pools, the held segments change once by the sum, and the
fill state is evaluated once. Freeing none changes nothing. -/
def State.freeRecords (s : State) (c : Channel) (rs : List Record) : State :=
  if rs.isEmpty then s
  else
    let n := segmentSum rs
    let s := s.modStore c fun st => { st with held := st.held - n }
    let s := { s with pools :=
      { s.pools with
        freeSegments := s.pools.freeSegments + n
        freeDescriptors := s.pools.freeDescriptors + rs.length } }
    s.evaluateFill c

end Sys2Proof.Machine
end

