-- ==== Sys2Proof/Machine/Flags.lean ====
section
/-! DEFINITION. The output pins, and the conditions the blocks test: each a function of the state
that decides it (notes/assumptions/24.md). -/

namespace Sys2Proof.Machine

/-- The other level. -/
def Level.other : Level → Level
  | .low => .high
  | .high => .low

/-- R1: the level that is mark under a polarity. -/
def Polarity.mark : Polarity → Level
  | .normal => .high
  | .inverted => .low

/-- R1: the level that is space under a polarity. -/
def Polarity.space (p : Polarity) : Level := p.mark.other

/-- The device runs: RESET is not asserted (R170). -/
def State.running (s : State) : Bool := !s.resetAsserted

/-- R171: the conditions under which ATTN is active: a response waits, a frame has been started and
not sent whole, or a notice is pending with credit. It is inactive during a hardware reset. A frame
counts as sent whole when it leaves the path: in the SPI selection that is not yet so at the tick of
its last byte (DESIGN CHOICE, notes/assumptions/32.md). -/
def State.attnActive (s : State) : Bool :=
  s.running &&
    (!s.link.responses.isEmpty || s.link.transmit.isSome ||
      (!s.notices.pending.isEmpty && decide (1 ≤ s.notices.credit)))

/-- The level of the ATTN pin, active low (section 1.7). -/
def State.attnPin (s : State) : Level := if s.attnActive then .low else .high

/-- R122: the level at which a HOLD output with this sense and polarity is driven. -/
def holdLevel (active : Bool) : HoldPolarity → Level
  | .activeHigh => if active then .high else .low
  | .activeLow => if active then .low else .high

/-- The level of pin HOLDn. While RESET is asserted every HOLD pin is high (R122, R170). -/
def State.holdPin (s : State) (c : Channel) : Level :=
  if s.running then holdLevel (s.chan c).store.hold (s.chan c).config.holdPolarity else .high

/-- The framing of the working profile is LENGTH with the gap guard off, whose boundary is found
when the hunt begins (R89). -/
def FramingFields.boundaryAtOnce (f : FramingFields) : Bool :=
  decide (f.mode = .length) && decide (f.gapLimit = 0)

/-- R91: the channel of a working profile whose gap limit is not 0 runs the gap timer. -/
def FramingFields.gapRuns (f : FramingFields) : Bool := decide (f.gapLimit ≠ 0)

end Sys2Proof.Machine
end

