-- ==== Sys2Proof/Machine/Profile.lean ====
section
/-! DEFINITION. Line profiles and the search space (chapter 1): what a profile's fields mean, the
format ladder, the permitted sets, and the writes of the working profile with their epoch. -/

namespace Sys2Proof.Machine

/-! ### Profile fields (R1, R2) -/

/-- R1: the parity bit count. -/
def Parity.bits : Parity → Nat
  | .none => 0
  | .even | .odd | .mark | .space => 1

/-- R1: the character bits of a format: start, data, parity and stop bits. -/
def Format.charBits (f : Format) : Nat := 1 + f.dataBits + f.parity.bits + f.stopBits

/-- R1, R62, R80: whether a parity bit (true for mark) disagrees with the parity, `ones` being the
count of mark bits among the data bits. -/
def Parity.isError (p : Parity) (ones : Nat) (bit : Bool) : Bool :=
  match p with
  | .none => false
  | .even => (ones + bit.toNat) % 2 == 1
  | .odd => (ones + bit.toNat) % 2 == 0
  | .mark => !bit
  | .space => bit

/-- R2: a valid set of framing fields: every field in range, and the mode conditions. -/
def FramingFields.valid (f : FramingFields) : Bool :=
  decide (f.gapLimit ≤ 64) && decide (f.delimiters.length ≤ 4) &&
  decide (1 ≤ f.recordLength) && decide (f.recordLength ≤ 2048) &&
  decide (1 ≤ f.maxRecordLength) && decide (f.maxRecordLength ≤ 2048) &&
  (match f.mode with
   | .gap => decide (2 ≤ f.gapLimit)
   | .delim => !f.delimiters.isEmpty
   | .length => decide (f.recordLength ≤ f.maxRecordLength))

/-- R1: line fields with data bits 5..8 and stop bits 1..2. -/
def LineFields.valid (l : LineFields) : Bool :=
  decide (5 ≤ l.format.dataBits) && decide (l.format.dataBits ≤ 8) &&
  decide (1 ≤ l.format.stopBits) && decide (l.format.stopBits ≤ 2)

/-- R7: a given profile of legal values. Which rate entries are defined is the table's matter
(R9). -/
def GivenProfile.valid (g : GivenProfile) : Bool := g.line.valid && g.framing.valid

/-- R4: an entry that SET_RATES accepts: 0, or 300..3,000,000. -/
def rateEntryValid (r : Nat) : Bool := r == 0 || (decide (300 ≤ r) && decide (r ≤ 3000000))

/-- R157: the ranges and the cross-checks of a configuration record. -/
def ChannelConfig.valid (k : ChannelConfig) : Bool :=
  decide (k.glitchLimit ≤ 255) &&
  decide (32 ≤ k.gatherTarget) && decide (k.gatherTarget ≤ 256) &&
  decide (1 ≤ k.gatherQuietMs) && decide (k.gatherQuietMs ≤ 1000) &&
  decide (8 ≤ k.minCharacters) && decide (k.minCharacters ≤ 64) &&
  decide (1 ≤ k.candidateBudget) && decide (k.candidateBudget ≤ 1280) &&
  decide (k.retryLimit ≤ 15) &&
  decide (1 ≤ k.tolerance) && decide (k.tolerance ≤ 8) &&
  decide (16 ≤ k.windowLength) && decide (k.windowLength ≤ 4096) &&
  decide (k.errorThreshold ≤ k.windowLength) &&
  decide (10 ≤ k.holdoverMs) && decide (k.holdoverMs ≤ 10000) &&
  decide (k.dormantS ≤ 3600) &&
  decide (1 ≤ k.segmentCap) && decide (k.segmentCap ≤ 512) &&
  decide (1 ≤ k.lowMark) && decide (k.lowMark < k.highMark) &&
  decide (k.highMark ≤ k.segmentCap) &&
  decide (10 ≤ k.leaseTimeoutMs) && decide (k.leaseTimeoutMs ≤ 60000)

/-! ### The format ladder (R6) and the permitted sets (R8) -/

/-- The two formats of a ladder step, stop bits 1 then 2. -/
def ladderPair (p : Parity) (d : Nat) : List Format :=
  [{ dataBits := d, parity := p, stopBits := 1 }, { dataBits := d, parity := p, stopBits := 2 }]

/-- The eight formats of one parity, data bits 8, 7, 6, 5. -/
def ladderParity (p : Parity) : List Format :=
  ladderPair p 8 ++ ladderPair p 7 ++ ladderPair p 6 ++ ladderPair p 5

/-- R6: the forty formats in the order in which they are tried. -/
def formatLadder : List Format :=
  ladderParity .even ++ ladderParity .odd ++ ladderParity .mark ++ ladderParity .space ++
    ladderParity .none

/-- R180: the code of a parity, which is its bit in the parity mask. -/
def Parity.code : Parity → Nat
  | .none => 0
  | .even => 1
  | .odd => 2
  | .mark => 3
  | .space => 4

/-- R8: whether the data bits of a format are permitted. -/
def dataPermitted (g : LineFields) (m : SearchFields) (d : Nat) : Bool :=
  if m.dataMask = 0 then d == g.format.dataBits else m.dataMask.getLsbD (d - 5)

/-- R8: whether a parity is permitted. -/
def parityPermitted (g : LineFields) (m : SearchFields) (p : Parity) : Bool :=
  if m.parityMask = 0 then decide (p = g.format.parity) else m.parityMask.getLsbD p.code

/-- R8: whether a stop bit count is permitted. -/
def stopPermitted (g : LineFields) (m : SearchFields) (n : Nat) : Bool :=
  if m.stopMask = 0 then n == g.format.stopBits else m.stopMask.getLsbD (n - 1)

/-- R8: a format passes the masks when each of its fields lies in its permitted set. -/
def formatPermitted (g : LineFields) (m : SearchFields) (f : Format) : Bool :=
  dataPermitted g m f.dataBits && parityPermitted g m f.parity && stopPermitted g m f.stopBits

/-- The sixteen rate indices, in order. -/
def rateIndices : List (Fin 16) := [0, 1, 2, 3, 4, 5, 6, 7, 8, 9, 10, 11, 12, 13, 14, 15]

/-- R8: the permitted rate indices, in index order: those of the mask, or the given index when the
mask is empty, less the undefined entries. -/
def permittedRates (g : LineFields) (m : SearchFields) (rates : Vector Nat 16) : List (Fin 16) :=
  (if m.rateMask = 0 then [g.rate] else rateIndices.filter fun i => m.rateMask.getLsbD i.val).filter
    fun i => rates[i.val] != 0

/-! ### Writes of the working profile (R13 to R17) -/

/-- R15: the epoch after a write: one more when a compared field (the line fields, the nominal
rate, the framing fields) has changed value. -/
def epochAfter (old : WorkingProfile) (line : LineFields) (nominal : Nat)
    (framing : FramingFields) : BitVec 8 :=
  if old.line = line ∧ old.nominal = nominal ∧ old.framing = framing then old.epoch
  else old.epoch + 1

/-- The working profile after a write of its compared fields, with its epoch (R15). -/
def WorkingProfile.written (w : WorkingProfile) (line : LineFields) (nominal : Nat)
    (framing : FramingFields) (confirmed : Bool) : WorkingProfile :=
  { line := line, nominal := nominal, framing := framing, confirmed := confirmed
    epoch := epochAfter w line nominal framing }

/-- R13: a whole copy from the given profile, under the rate table as it stands. -/
def Chan.wholeCopy (k : Chan) (rates : Vector Nat 16) : Chan :=
  { k with
    working := k.working.written k.given.line rates[k.given.line.rate.val] k.given.framing false
    pendingUpdate := false }

/-- R14: a FIT outcome writes the chosen candidate; the framing fields stand. -/
def Chan.writeFit (k : Chan) (best : Candidate) : Chan :=
  { k with working := k.working.written best.line best.nominal k.working.framing true }

/-- R17: an application copies the framing fields of the given profile and clears the pending
flag; line fields, nominal rate and confirmed flag stand. -/
def Chan.applyUpdate (k : Chan) : Chan :=
  { k with
    working := k.working.written k.working.line k.working.nominal k.given.framing
      k.working.confirmed
    pendingUpdate := false }

/-! ### The bit clock's nominal period (R77) -/

/-- R77: 48,000,000 / nominal rate ticks, in 1/256 tick, rounded to the nearest. The manual does not
say which way an exact half goes: the free value `Config.nominalHalfUp` does. -/
def nominalPeriod (nominal : Nat) : Nat :=
  let n := ticksPerSecond * 256
  let q := n / nominal
  let r := n % nominal
  if 2 * r < nominal then q
  else if nominal < 2 * r then q + 1
  else if Config.nominalHalfUp nominal then q + 1 else q

end Sys2Proof.Machine
end

