-- ==== Sys2Proof/Machine/Store.lean ====
section
/-! DEFINITION. The Record Store's side of an open record (chapter 6): descriptors at opening,
segments, and the hand-over of a closed record. -/

namespace Sys2Proof.Machine

/-- R113: a descriptor for a record that opens. Answers whether one was granted. -/
def State.askDescriptor (s : State) : State × Bool :=
  if 0 < s.pools.freeDescriptors then
    ({ s with pools := { s.pools with freeDescriptors := s.pools.freeDescriptors - 1 } }, true)
  else
    ({ s with pools :=
        { s.pools with descriptorRefusals := count32 s.pools.descriptorRefusals 1 } }, false)

/-- The store's answer to a byte that needs a new segment (R111). -/
inductive SegmentAnswer
  | granted
  | refusedCap
  | refusedPool
  deriving DecidableEq, Repr

/-- R111: the test of an allocation, the cap first, then the pool. -/
def segmentAnswer (held cap free : Nat) : SegmentAnswer :=
  if cap ≤ held then .refusedCap else if free = 0 then .refusedPool else .granted

/-- R111, R112: a new segment is asked for channel `c`'s open record. A grant takes it from the
pool and evaluates the fill state; a refusal is counted, and for the pool posts POOL. -/
def State.askSegment (s : State) (c : Channel) : State × Bool :=
  let k := s.chan c
  match segmentAnswer k.store.held k.config.segmentCap s.pools.freeSegments with
  | .refusedCap =>
    ({ s with pools := { s.pools with capRefusals := count32 s.pools.capRefusals 1 } }, false)
  | .refusedPool =>
    let s := { s with pools := { s.pools with poolRefusals := count32 s.pools.poolRefusals 1 } }
    (s.post (.device .pool) (.pool 1), false)
  | .granted =>
    let s := { s with pools := { s.pools with freeSegments := s.pools.freeSegments - 1 } }
    let s := s.modStore c fun st => { st with held := st.held + 1 }
    (s.evaluateFill c, true)

/-- The open record, if there is one (R88). -/
def FramerState.record : FramerState → Option OpenRecord
  | .inRecord r => some r
  | .idle | .aligning | .between => none

/-- `f` on the open record, if there is one. -/
def FramerState.onRecord (f : OpenRecord → OpenRecord) : FramerState → FramerState
  | .inRecord r => .inRecord (f r)
  | .idle => .idle
  | .aligning => .aligning
  | .between => .between

/-- The open record of a channel, if there is one. -/
def Chan.openRecord? (k : Chan) : Option OpenRecord := k.framer.state.record

/-- `f` on the open record of channel `c`, if there is one. -/
def State.modRecord (s : State) (c : Channel) (f : OpenRecord → OpenRecord) : State :=
  s.modFramer c fun fr => { fr with state := fr.state.onRecord f }

/-- A character of the open record that is not stored (R96). -/
def OpenRecord.lose (r : OpenRecord) : OpenRecord :=
  { r with truncated := true, lost := r.lost + 1 }

/-- A character stored as the record's next byte (R96, R108). -/
def OpenRecord.append (r : OpenRecord) (v : Byte) : OpenRecord :=
  { r with bytes := r.bytes ++ [v] }

/-- R108, R111: the byte after `n` stored ones needs a new segment. -/
def needsSegment (n : Nat) : Bool := n % 32 == 0

/-- R96: the character `v` of channel `c`'s open record `r` is stored or counted lost. A dropped or
truncated record offers nothing to the store. -/
def State.storeCharacter (s : State) (c : Channel) (r : OpenRecord) (v : Byte) : State :=
  if !r.hasDescriptor || r.truncated then s.modRecord c OpenRecord.lose
  else if needsSegment r.bytes.length then
    let (s, granted) := s.askSegment c
    if granted then s.modRecord c fun r => r.append v else s.modRecord c OpenRecord.lose
  else s.modRecord c fun r => r.append v

/-- R105: the descriptor and bytes of a record closed with `cause` at `endTime`, under `seq`. -/
def OpenRecord.closed (r : OpenRecord) (c : Channel) (seq : BitVec 32) (cause : Cause)
    (endTime : BitVec 32) : Record :=
  { channel := c, seq := seq, startTime := r.startTime, endTime := endTime, bytes := r.bytes
    lost := r.lost, cause := cause, truncated := r.truncated, suspect := r.suspect
    parityErrors := r.parityErrors, framingErrors := r.framingErrors, firstError := r.firstError
    preamble := r.preamble, epoch := r.epoch, redelivery := 0 }

/-- R114, R115: the hand-over of a closed record that is not empty. It takes the next seq. With a
descriptor it joins the queue's tail and posts READY; dropped, it is counted and posts DROPPED. -/
def State.handOver (s : State) (c : Channel) (r : OpenRecord) (cause : Cause)
    (endTime : BitVec 32) : State :=
  let seq := (s.chan c).store.nextSeq
  let s := s.modStore c fun st => { st with nextSeq := seq + 1 }
  if r.hasDescriptor then
    let s := s.modStore c fun st => { st with queue := st.queue ++ [r.closed c seq cause endTime] }
    let s := s.modStats c fun t =>
      { t with
        recordsClosed := count32 t.recordsClosed 1
        bytesStored := count32 t.bytesStored r.bytes.length
        bytesLost := count32 t.bytesLost r.lost }
    s.postChan c .ready .ready
  else
    let s := s.modStore c fun st => { st with lastDropped := some seq }
    let s := s.modStats c fun t =>
      { t with
        recordsDropped := count32 t.recordsDropped 1
        bytesLost := count32 t.bytesLost r.lost }
    s.postChan c .dropped (.dropped 1)

/-- R100: an empty record's descriptor, if it holds one, returns to the pool. -/
def State.freeEmpty (s : State) (r : OpenRecord) : State :=
  if r.hasDescriptor then
    { s with pools := { s.pools with freeDescriptors := s.pools.freeDescriptors + 1 } }
  else s

/-- R100: a record with nothing stored and nothing lost. -/
def OpenRecord.isEmpty (r : OpenRecord) : Bool := r.bytes.isEmpty && r.lost == 0

end Sys2Proof.Machine
end

