-- ==== Sys2Proof/Machine/Lock.lean ====
section
/-! DEFINITION. Entering and leaving the lock states (chapter 2), as far as no record and no trial
is concerned. -/

namespace Sys2Proof.Machine

/-- R76: the capture ring emptied, the last capture edge absent, the observed idle level high. -/
def Sampler.clearCapture (p : Sampler) : Sampler :=
  { p with ring := [], lastCapture := none, idleLevel := .high }

/-- R83: decoding stops; a character in progress is dropped and the offset sums are 0. -/
def Sampler.stopped (p : Sampler) : Sampler :=
  { p with decode := .stopped, edges := [], offsetCount := 0, offsetSum := 0 }

/-- R88, R102: the framer in IDLE, its gap timer stopped, its running preamble count 0. Any open
record has been closed or discarded before. -/
def framerIdle : Framer :=
  { state := .idle, preamble := 0, gapTimer := none }

/-- The quality window stops: its counts are 0 while the channel does not decode (R161; DEDUCED,
notes/assumptions/18.md). -/
def Controller.windowStopped (d : Controller) : Controller :=
  { d with windowChars := 0, windowErrors := 0 }

/-- The channel leaves ALIGN, LOCKED and DEGRADED, its open record settled: decoding stops (R83),
the framer is IDLE (R102), the window and the holdover and dormant timers stop (R42, R44). -/
def Chan.leaveDecoding (k : Chan) : Chan :=
  { k with
    sampler := k.sampler.stopped
    framer := framerIdle
    ctl := { k.ctl.windowStopped with holdoverTimer := none, dormantTimer := none } }

/-- A QUIET entry at tick `now` (R76): ring cleared, QUIET reference set. No timer runs (R25). -/
def Chan.enterQuiet (k : Chan) (now : Nat) : Chan :=
  { k with
    sampler := { k.sampler.clearCapture with quietReference := now }
    ctl := { k.ctl with lock := .quiet, gatherTimer := none } }

/-- LISTEN entry (R20), and the entry that ends an ACQUIRE (R24): a whole copy, retry count 0, and
QUIET. -/
def Chan.freshQuiet (k : Chan) (rates : Vector Nat 16) (now : Nat) : Chan :=
  let k := k.wholeCopy rates
  { k with ctl := { k.ctl with retryCount := 0 } }.enterQuiet now

/-- R35, R38: the LOCKED notice of a channel, from its working profile. -/
def Chan.lockedValues (k : Chan) (regained : Bool) : NoticeValues :=
  .locked k.working.epoch k.working.nominal k.working.line.format regained

/-- R35, R38: a channel enters LOCKED; the retry count is 0 and LOCKED is posted. -/
def State.enterLocked (s : State) (c : Channel) (regained : Bool) : State :=
  let s := s.modCtl c fun d => { d with lock := .locked, retryCount := 0 }
  s.postChan c .locked ((s.chan c).lockedValues regained)

/-- R30, R39: the outcome of the stored trial report, which FAILED carries. A channel that has
failed has a report; with none the value is FIT (DESIGN CHOICE, notes/assumptions/25.md). -/
def Controller.lastOutcome (d : Controller) : TrialOutcome :=
  match d.report with
  | some r => r.outcome
  | none => .fit

/-- R30: the retry test, applied to a failed attempt: QUIET, or FAILED with its notice. The channel
has left the decoding states before. -/
def State.retryTest (s : State) (c : Channel) : State :=
  let s := s.modCtl c fun d => { d with retryCount := d.retryCount + 1 }
  let k := s.chan c
  if k.ctl.retryCount ≤ k.config.retryLimit then
    s.modChan c fun k => k.enterQuiet s.now
  else
    let s := s.modCtl c fun d => { d with lock := .failed }
    s.postChan c .failed (.failed k.ctl.lastOutcome k.ctl.retryCount)

end Sys2Proof.Machine
end

