-- ==== Sys2Proof/Machine/Framer.lean ====
section
/-! DEFINITION. The Record Framer (chapter 5): alignment, the gap timer, opening, the characters of
a record, breaks, closure, and framing updates at a boundary. -/

namespace Sys2Proof.Machine

/-- R82: what a character event carries to the framer. `endInstant` is the nominal end of its last
stop bit, from which idle time is measured. -/
structure Character where
  value : Byte
  parityOk : Bool
  framingOk : Bool
  startTime : BitVec 32
  endInstant : Instant
  deriving DecidableEq, Repr

/-- A character with a parity error, a framing error or both (R36). -/
def Character.errored (x : Character) : Bool := !x.parityOk || !x.framingOk

/-! ### Instants between ticks -/

/-- Whether tick `t` comes before the instant. -/
def Instant.after (x : Instant) (t : Nat) : Bool := decide (t * x.den < x.num)

/-- The first tick at or after the instant. -/
def Instant.ceil (x : Instant) : Nat := (x.num + x.den - 1) / x.den

/-- The device time of the instant: its whole microsecond (R70). -/
def Instant.time (x : Instant) : BitVec 32 := deviceTime (x.num / x.den)

/-- The end time of a character (R82). -/
def Character.endTime (x : Character) : BitVec 32 := x.endInstant.time

/-! ### The gap timer (R91, R92) -/

/-- R91: the gap timer of a working profile started at `reference`: stopped when the gap limit is 0,
else running toward the reference plus the gap limit times the character time, unrounded. -/
def gapFrom (w : WorkingProfile) (reference : Instant) : Option Instant :=
  if w.framing.gapRuns then
    some
      { num := reference.num * w.nominal +
          reference.den * (w.framing.gapLimit * w.line.format.charBits * ticksPerSecond)
        den := reference.den * w.nominal }
  else none

/-- The gap timer of `c` restarted from `reference` (R91). -/
def Chan.restartGap (k : Chan) (reference : Instant) : Chan :=
  { k with framer := { k.framer with gapTimer := gapFrom k.working reference } }

/-! ### Boundaries (R89, R90) -/

/-- R89: the boundary is found; the framer is in BETWEEN and the channel enters LOCKED (R35). -/
def State.boundaryFound (s : State) (c : Channel) : State :=
  let s := s.modFramer c fun f => { f with state := .between, preamble := 0 }
  s.enterLocked c false

/-- R89, R90: the hunt begins (or begins again): the gap timer is stopped, and in LENGTH mode with
the guard off the boundary is found at once. -/
def State.beginHunt (s : State) (c : Channel) : State :=
  let s := s.modFramer c fun f => { f with state := .aligning, gapTimer := none }
  if (s.chan c).working.framing.boundaryAtOnce then s.boundaryFound c else s

/-! ### Framing updates (R17, R104) -/

/-- R104: the framer after new framing fields come into force in BETWEEN: a gap limit of 0 stops
the gap timer, and a start character that is removed sets the running preamble count to 0. -/
def Framer.reframed (f : Framer) (old new : FramingFields) : Framer :=
  { f with
    gapTimer := if new.gapLimit = 0 then none else f.gapTimer
    preamble := if old.startChar.isSome && new.startChar.isNone then 0 else f.preamble }

/-- R17, R104: an application with no record open, outside ALIGN. -/
def Chan.applyBetween (k : Chan) : Chan :=
  { k.applyUpdate with framer := k.framer.reframed k.working.framing k.given.framing }

/-- R99, step 3: a pending framing update is applied at a closure. -/
def State.applyAtClosure (s : State) (c : Channel) : State :=
  if (s.chan c).pendingUpdate then s.modChan c Chan.applyBetween else s

/-! ### Closure (R99, R100) -/

/-- R99: the open record of `c`, if any, closes with `cause` at `endTime`: the empty test, the
hand-over, the pending update. The framer is then in BETWEEN. -/
def State.closeRecord (s : State) (c : Channel) (cause : Cause) (endTime : BitVec 32) : State :=
  match (s.chan c).openRecord? with
  | none => s
  | some r =>
    let s := s.modFramer c fun f => { f with state := .between }
    let s := if r.isEmpty then s.freeEmpty r else s.handOver c r cause endTime
    s.applyAtClosure c

/-! ### Characters (R93 to R97) -/

/-- R97: the error summary after a character at the record's present position. -/
def OpenRecord.account (r : OpenRecord) (x : Character) : OpenRecord :=
  { r with
    parityErrors := if x.parityOk then r.parityErrors else count8 r.parityErrors 1
    framingErrors := if x.framingOk then r.framingErrors else count8 r.framingErrors 1
    firstError :=
      if x.errored && r.firstError.isNone then some (r.bytes.length + r.lost) else r.firstError }

/-- R88: the character count of the open record, stored plus lost; 0 when none is open. -/
def Chan.characterCount (k : Chan) : Nat :=
  match k.openRecord? with
  | some r => r.bytes.length + r.lost
  | none => 0

/-- The character handed to the open record's store step (R95, step 2). -/
def State.storeOpen (s : State) (c : Channel) (v : Byte) : State :=
  match (s.chan c).openRecord? with
  | some r => s.storeCharacter c r v
  | none => s

/-- R95, steps 3 and 4: the length and the oversize tests. -/
def State.lengthTests (s : State) (c : Channel) (x : Character) : State :=
  let k := s.chan c
  let f := k.working.framing
  let n := k.characterCount
  if f.mode = .length ∧ f.recordLength ≤ n then s.closeRecord c .length x.endTime
  else if f.maxRecordLength ≤ n then s.closeRecord c .oversize x.endTime
  else s

/-- R95: one character of the open record. `opening` marks the start character that opened it, which
is not tested as a delimiter (R94). -/
def State.recordCharacter (s : State) (c : Channel) (x : Character) (opening : Bool) : State :=
  let f := (s.chan c).working.framing
  let s := s.modRecord c fun r => r.account x
  if f.mode = .delim ∧ x.value ∈ f.delimiters ∧ opening = false then
    let s := if f.delimiterKept then s.storeOpen c x.value else s
    s.closeRecord c .delim x.endTime
  else
    let s := s.storeOpen c x.value
    s.lengthTests c x

/-- R94: the progress of a record that opens with character `x`. -/
def Chan.openingRecord (k : Chan) (x : Character) (granted : Bool) : OpenRecord :=
  { hasDescriptor := granted
    startTime := x.startTime
    bytes := []
    lost := 0
    truncated := false
    suspect := decide (k.ctl.lock = .degraded)
    parityErrors := 0
    framingErrors := 0
    firstError := none
    preamble :=
      if k.working.framing.startChar.isSome && decide (0 < k.framer.preamble)
      then some k.framer.preamble else none
    epoch := k.working.epoch }

/-- R94: a character opens a record and is handled as its first. -/
def State.openRecord (s : State) (c : Channel) (x : Character) (opening : Bool) : State :=
  let (s, granted) := s.askDescriptor
  let r := (s.chan c).openingRecord x granted
  let s := s.modFramer c fun f => { f with state := .inRecord r, preamble := 0 }
  s.recordCharacter c x opening

/-- R93: a character in BETWEEN opens a record, or is preamble. -/
def State.betweenCharacter (s : State) (c : Channel) (x : Character) : State :=
  match (s.chan c).working.framing.startChar with
  | none => s.openRecord c x false
  | some b =>
    if x.value = b then s.openRecord c x true
    else
      let s := s.modFramer c fun f => { f with preamble := count16 f.preamble 1 }
      s.modStats c fun t => { t with preambleBytes := count32 t.preambleBytes 1 }

/-- R89: a character in ALIGNING is discarded and counted; in DELIM mode a delimiter is the
boundary. -/
def State.aligningCharacter (s : State) (c : Channel) (x : Character) : State :=
  let f := (s.chan c).working.framing
  let s := s.modStats c fun t =>
    { t with discardedBeforeAlignment := count32 t.discardedBeforeAlignment 1 }
  if f.mode = .delim ∧ x.value ∈ f.delimiters then s.boundaryFound c else s

/-- A character event taken by the framer (section 5.11). The gap timer restarts from its end time
(R91) under the framing fields in force when the event is taken (R88). -/
def State.frameCharacter (s : State) (c : Channel) (x : Character) : State :=
  match (s.chan c).framer.state with
  | .idle => s
  | .aligning => (s.modChan c fun k => k.restartGap x.endInstant).aligningCharacter c x
  | .between => (s.modChan c fun k => k.restartGap x.endInstant).betweenCharacter c x
  | .inRecord _ => (s.modChan c fun k => k.restartGap x.endInstant).recordCharacter c x false

/-- R98: a break event recognised at `x`. It restarts the gap timer and closes the open record. -/
def State.frameBreak (s : State) (c : Channel) (x : Instant) : State :=
  match (s.chan c).framer.state with
  | .idle => s
  | .aligning | .between => s.modChan c fun k => k.restartGap x
  | .inRecord _ => (s.modChan c fun k => k.restartGap x).closeRecord c .brk x.time

/-! ### Gap expiry (R92) -/

/-- R92: whether the sampler is on a start edge dated before the instant, which holds the expiry. -/
def Sampler.holdsGap (p : Sampler) (x : Instant) : Bool :=
  match p.decode with
  | .sampling t _ | .spaceHeld t _ => x.after t
  | .stopped | .hunt _ | .waitMark _ => false

/-- Whether a change of the line dated before the instant has still to pass the glitch filter. -/
def Sampler.unsettledBefore (p : Sampler) (x : Instant) : Bool :=
  match p.pendingChange with
  | some d => x.after d
  | none => false

/-- R92: a taken expiry acts by framer state and framing mode; the timer is stopped. -/
def State.takeGap (s : State) (c : Channel) (x : Instant) : State :=
  let s := s.modFramer c fun f => { f with gapTimer := none }
  let k := s.chan c
  match k.framer.state with
  | .idle | .between => s
  | .aligning =>
    match k.working.framing.mode with
    | .gap | .length => s.boundaryFound c
    | .delim => s
  | .inRecord _ => s.closeRecord c .gap x.time

/-- R92: the moment at which an expiry is taken: the glitch limit after the instant. -/
def Chan.gapMoment (k : Chan) (x : Instant) : Nat := x.ceil + k.config.glitchLimit

/-- R92: the gap expiry of `c` that can be taken: the timer runs, no earlier start edge is in hand
and every earlier edge has passed the filter. -/
def Chan.gapReady (k : Chan) : Option Instant :=
  match k.framer.state, k.framer.gapTimer with
  | .idle, _ => none
  | .aligning, some x | .between, some x | .inRecord _, some x =>
    if k.sampler.holdsGap x || k.sampler.unsettledBefore x then none else some x
  | .aligning, none | .between, none | .inRecord _, none => none

/-- R92: an expiry whose moment has come and that no start edge holds is taken: one held while a
start edge was in hand, as that start proves false, or one due before the character in hand
(DEDUCED, notes/assumptions/9.md and 11.md). -/
def State.takeHeldGap (s : State) (c : Channel) : State :=
  match (s.chan c).gapReady with
  | some x => if (s.chan c).gapMoment x ≤ s.now then s.takeGap c x else s
  | none => s

/-- R103: what CLOSE does, and whether a record was closed. -/
def State.closeRequested (s : State) (c : Channel) : State × Bool :=
  match (s.chan c).openRecord? with
  | some _ => (s.closeRecord c .close s.deviceNow, true)
  | none => (s, false)

/-! ### Discarding (R102, R125) -/

/-- The segments an open record holds. -/
def Framer.openSegments (f : Framer) : Nat :=
  match f.state.record with
  | some r => segmentsOf r.bytes.length
  | none => 0

/-- The descriptors an open record holds. -/
def Framer.openDescriptors (f : Framer) : Nat :=
  match f.state.record with
  | some r => if r.hasDescriptor then 1 else 0
  | none => 0

end Sys2Proof.Machine
end

