-- ==== Sys2Proof/Machine/Sampler.lean ====
section
/-! DEFINITION. The Line Sampler (chapter 4): sample instants, the decoding of a character from the
edges of the line, the hunt for a start edge, and the rate offset. -/

namespace Sys2Proof.Machine

/-! ### Sample instants (R77) -/

/-- R77: the sample position `m` half periods after the start edge `t`, the period `p` in 1/256
tick; rounded to the nearest tick, a half up. -/
def halfPeriods (t p m : Nat) : Nat := t + (m * p + 256) / 512

/-- R79: the middle of the start bit. -/
def startSample (t p : Nat) : Nat := halfPeriods t p 1

/-- R80: the middle of the bit `k` places after the start bit. -/
def bitSample (t p k : Nat) : Nat := halfPeriods t p (2 * k + 3)

/-- R80: the last stop-bit sample of a character of `cb` character bits. -/
def lastSample (t p cb : Nat) : Nat := halfPeriods t p (2 * cb - 1)

/-- The instant `m` periods after the start edge `t`, exact: R77 rounds sample positions alone. -/
def periodsAfter (t p m : Nat) : Instant := { num := 256 * t + m * p, den := 256 }

/-- R82: the nominal end of the last stop bit. -/
def characterEnd (t p cb : Nat) : Instant := periodsAfter t p cb

/-- R81: the break instant, one bit period beyond the nominal end of the character. -/
def breakInstant (t p cb : Nat) : Instant := periodsAfter t p (cb + 1)

/-! ### The line as the filtered edges fix it -/

/-- The line level at tick `at_`, being `before` until the first of `edges`: a sample that falls on
an edge reads the level after it (DEDUCED, notes/assumptions/10.md). -/
def levelAt (before : Level) (edges : List Edge) (at_ : Nat) : Level :=
  edges.foldl (fun l e => if e.tick ≤ at_ then e.level else l) before

/-- Whether the line reads mark at tick `at_` of a character whose start edge came before
`edges`. -/
def readsMark (pol : Polarity) (edges : List Edge) (at_ : Nat) : Bool :=
  decide (levelAt pol.space edges at_ = pol.mark)

/-- The bits of a character after its start bit, data first, as the samples at `places` read
them. -/
def sampleBits (pol : Polarity) (edges : List Edge) (t p : Nat) (places : List Nat) : List Bool :=
  places.map fun k => readsMark pol edges (bitSample t p k)

/-- R80: a value from its data bits, least significant first. -/
def valueOfBits : List Bool → Nat
  | [] => 0
  | b :: rest => b.toNat + 2 * valueOfBits rest

/-- The count of mark bits. -/
def marksIn (bits : List Bool) : Nat := (bits.map Bool.toNat).sum

/-- R80: the data bits that a character's samples give. -/
def dataBitsOf (l : LineFields) (edges : List Edge) (t p : Nat) : List Bool :=
  sampleBits l.polarity edges t p (List.range l.format.dataBits)

/-- R80: the character that the edges since start edge `t` give. -/
def decodeCharacter (l : LineFields) (edges : List Edge) (t p : Nat) : Character :=
  let n := l.format.dataBits
  let pb := l.format.parity.bits
  let bits := dataBitsOf l edges t p
  let parityBit := readsMark l.polarity edges (bitSample t p n)
  let stops := sampleBits l.polarity edges t p ((List.range l.format.stopBits).map (· + n + pb))
  { value := BitVec.ofNat 8 (valueOfBits bits)
    parityOk := !l.format.parity.isError (marksIn bits) parityBit
    framingOk := stops.all id
    startTime := deviceTime t
    endInstant := characterEnd t p l.format.charBits }

/-! ### The hunt (R78) -/

/-- The sampler in HUNT since tick `since`: the first start edge dated after it begins a character
under the tracked period as it stands. -/
def Sampler.huntFrom (p : Sampler) (space : Level) (since : Nat) : Sampler :=
  match p.edges.dropWhile fun e => !(decide (since < e.tick) && decide (e.level = space)) with
  | e :: rest => { p with decode := .sampling e.tick p.trackedPeriod, edges := rest }
  | [] => { p with decode := .hunt since, edges := [] }

/-- The sampler after the edges in hand have been looked at: a hunt may find its start edge, and a
break its return to mark, after which the hunt begins (R78, R81). -/
def Sampler.settle (p : Sampler) (pol : Polarity) : Sampler :=
  match p.decode with
  | .hunt since => p.huntFrom pol.space since
  | .waitMark since =>
    match p.edges.dropWhile fun e => !(decide (since ≤ e.tick) && decide (e.level = pol.mark)) with
    | e :: rest => { p with edges := rest }.huntFrom pol.space e.tick
    | [] => { p with edges := [] }
  | .stopped | .sampling _ _ | .spaceHeld _ _ => p

/-- The sampler of `c` settled under its working polarity. -/
def Chan.settleSampler (k : Chan) : Chan :=
  { k with sampler := k.sampler.settle k.working.line.polarity }

/-! ### The rate offset (R84 to R86) -/

/-- R84: the boundary number of an edge `d` ticks after the start edge. -/
def boundaryNumber (d p : Nat) : Nat := (2 * (256 * d) + p) / (2 * p)

/-- R84: an edge's contribution to the window offset sums: a count and a relative deviation. -/
def edgeOffset (t p cb : Nat) (e : Edge) : Nat × Rat :=
  let d := e.tick - t
  let k := boundaryNumber d p
  if 1 ≤ k ∧ k ≤ cb - 1 then
    (1, ((256 * d : Nat) - (k * p : Nat) : Rat) / ((k * p : Nat) : Rat))
  else (0, 0)

/-- R84: what the internal edges of an error-free character add to the sums. -/
def characterOffset (edges : List Edge) (t p cb : Nat) : Nat × Rat :=
  (edges.filter fun e => decide (t < e.tick) && decide (e.tick ≤ lastSample t p cb)).foldl
    (fun acc e => let o := edgeOffset t p cb e; (acc.1 + o.1, acc.2 + o.2)) (0, 0)

/-- R85: the mean relative deviation in per mille, rounded toward zero, limited to −127..+127. -/
def offsetOf (count : Nat) (sum : Rat) : Int :=
  if count = 0 then 0
  else
    let v := Int.tdiv (sum.num * 1000) ((sum.den : Int) * count)
    max (-127) (min 127 v)

/-- R85: the window offset from the sums so far. -/
def Sampler.windowOffset (p : Sampler) : Int := offsetOf p.offsetCount p.offsetSum

/-- The sampler with a character's contribution added, if it is free of errors (R82, step 1). -/
def Sampler.addOffset (p : Sampler) (x : Character) (t per cb : Nat) : Sampler :=
  if x.errored then p
  else
    let o := characterOffset p.edges t per cb
    { p with offsetCount := p.offsetCount + o.1, offsetSum := p.offsetSum + o.2 }

/-- R77, R86: the least tracked period, 0.875 of the nominal, rounded toward the nominal. -/
def periodFloor (nominal : Nat) : Nat :=
  (7 * ticksPerSecond * 256 + 8 * nominal - 1) / (8 * nominal)

/-- R77, R86: the greatest tracked period, 1.125 of the nominal, rounded toward the nominal. -/
def periodCeiling (nominal : Nat) : Nat := 9 * ticksPerSecond * 256 / (8 * nominal)

/-- R86: the tracked period corrected by a passing window's offset: times (1000 + offset) / 1000,
rounded to the nearest 1/256 tick, a half up, and limited to the range of R77. -/
def correctedPeriod (nominal period : Nat) (offset : Int) : Nat :=
  let product := period * (1000 + offset).toNat
  max (periodFloor nominal) (min (periodCeiling nominal) ((2 * product + 1000) / 2000))

/-- R77: the tracked offset of a period, in per mille of the nominal, rounded toward zero. -/
def trackedOffsetOf (nominal period : Nat) : Int :=
  let whole : Int := (ticksPerSecond * 256 : Nat)
  Int.tdiv (((period * nominal : Nat) - whole) * 1000) whole

/-- R86: the sampler after a passing window. -/
def Sampler.corrected (p : Sampler) (nominal : Nat) : Sampler :=
  let period := correctedPeriod nominal p.trackedPeriod p.windowOffset
  { p with trackedPeriod := period, trackedOffset := trackedOffsetOf nominal period }

/-- R85: the offset sums begin again. -/
def Sampler.sumsCleared (p : Sampler) : Sampler := { p with offsetCount := 0, offsetSum := 0 }

/-- R34, step 3: the bit clock set from the nominal rate, tracked offset 0, and the hunt begun at
the entry tick (R78). -/
def Sampler.aligned (p : Sampler) (nominal now : Nat) : Sampler :=
  { p with
    trackedPeriod := nominalPeriod nominal
    trackedOffset := 0
    decode := .hunt now
    edges := []
    offsetCount := 0
    offsetSum := 0 }

/-! ### Edge capture (R75) -/

/-- The saturated interval, 2^24 − 1 ticks. -/
def saturatedInterval : Nat := 16777215

/-- R75: the interval from `since` to an edge at `tick`, 0 when the edge is not later, saturated. -/
def intervalTo (since tick : Nat) : Nat := min saturatedInterval (tick - since)

/-- R25, R75: the first capture entry, counted from the QUIET reference; the observed idle level is
the level before the edge. -/
def Sampler.captureFirst (p : Sampler) (e : Edge) : Sampler :=
  { p with
    ring := [{ level := e.level, interval := intervalTo p.quietReference e.tick }]
    lastCapture := some e.tick
    idleLevel := e.level.other }

/-- R75: a further capture entry, counted from the last. -/
def Sampler.captureNext (p : Sampler) (e : Edge) : Sampler :=
  { p with
    ring := p.ring ++
      [{ level := e.level, interval := intervalTo (p.lastCapture.getD p.quietReference) e.tick }]
    lastCapture := some e.tick }

end Sys2Proof.Machine
end

