-- ==== Sys2Proof/Machine/Controller.lean ====
section
/-! DEFINITION. The Channel Controller (chapter 2): gathering, alignment, the quality window, and
the releases; and the delivery of a filtered edge (R74). -/

namespace Sys2Proof.Machine

/-! ### Filtered edges (R25, R26, R74) -/

/-- R25: the first edge in QUIET. The gather settings are latched and the gather-quiet timer
started. -/
def State.gatherStart (s : State) (c : Channel) (e : Edge) : State :=
  s.modChan c fun k =>
    { k with
      sampler := k.sampler.captureFirst e
      ctl :=
        { k.ctl with
          lock := .gather
          gatherTarget := k.config.gatherTarget
          gatherQuietMs := k.config.gatherQuietMs
          gatherTimer := some (s.expiryInMs k.config.gatherQuietMs) } }

/-- R26, R48: the gather is complete: the timer stops, and the channel is QUEUED at the tail of the
trial queue (notes/assumptions/5.md: TRIAL_START takes it from there). -/
def State.joinQueue (s : State) (c : Channel) : State :=
  let s := s.modCtl c fun d => { d with lock := .queued, gatherTimer := none }
  { s with trial := { s.trial with queue := s.trial.queue ++ [c] } }

/-- R26: a further edge in GATHER. -/
def State.gatherNext (s : State) (c : Channel) (e : Edge) : State :=
  let s := s.modChan c fun k =>
    { k with
      sampler := k.sampler.captureNext e
      ctl := { k.ctl with gatherTimer := some (s.expiryInMs k.ctl.gatherQuietMs) } }
  let k := s.chan c
  if k.ctl.gatherTarget ≤ k.sampler.ring.length then s.joinQueue c else s

/-- R44, R74: an edge in ALIGN, LOCKED or DEGRADED goes to character recovery and restarts the
dormant timer. -/
def State.decodeEdge (s : State) (c : Channel) (e : Edge) : State :=
  s.modChan c fun k =>
    { k with
      sampler := { k.sampler with edges := k.sampler.edges ++ [e] }
      ctl := { k.ctl with dormantTimer := s.dormantStart c } }.settleSampler

/-- R72, R74: the filter of `c` accepts the change pending since `tick` and delivers one edge, dated
at that tick, which is used as the lock state requires. -/
def State.deliverEdge (s : State) (c : Channel) (tick : Nat) : State :=
  let level := (s.chan c).sampler.accepted.other
  let e : Edge := { tick := tick, level := level }
  let s := s.modSampler c fun p => { p with accepted := level, pendingChange := none }
  match (s.chan c).ctl.lock with
  | .off | .failed | .queued | .trial => s
  | .quiet => s.gatherStart c e
  | .gather => s.gatherNext c e
  | .align | .locked | .degraded => s.decodeEdge c e

/-- R72, R73: whether a change pending since `tick` has persisted for the glitch limit. -/
def State.changeMatured (s : State) (c : Channel) (tick : Nat) : Bool :=
  decide (tick + (s.chan c).config.glitchLimit ≤ s.now)

/-- R73: a pending change judged against the glitch limit now in force. -/
def State.judgePending (s : State) (c : Channel) : State :=
  match (s.chan c).sampler.pendingChange with
  | some tick => if s.changeMatured c tick then s.deliverEdge c tick else s
  | none => s

/-! ### Alignment (R34) -/

/-- R34, steps 1 to 4: the pending update applied, the window restarted, the bit clock set, the
dormant timer started. -/
def Chan.alignSetUp (k : Chan) (now : Nat) (dormant : Option Nat) : Chan :=
  let k := if k.pendingUpdate then k.applyUpdate else k
  { k with
    sampler := k.sampler.aligned k.working.nominal now
    framer := { k.framer with preamble := 0 }
    ctl :=
      { k.ctl with
        lock := .align
        windowChars := 0
        windowErrors := 0
        windowLength := k.config.windowLength
        dormantTimer := dormant } }

/-- R34: ALIGN entry. Its last step begins the boundary hunt. -/
def State.enterAlign (s : State) (c : Channel) : State :=
  (s.modChan c fun k => k.alignSetUp s.now (s.dormantStart c)).beginHunt c

/-! ### The quality window (R36 to R41) -/

/-- R37: how a window is judged. -/
inductive Judgement
  | pass
  | fail (reason : FailReason)
  deriving DecidableEq, Repr

/-- R37: the judgement of a window with these errors and this offset, under the threshold and
tolerance configured. -/
def judgeWindow (errors : Nat) (offset : Int) (threshold tolerance : Nat) : Judgement :=
  if threshold < errors then .fail .errors
  else if 10 * tolerance < offset.natAbs then .fail .drift
  else .pass

/-- R37: the counts and sums begin again, and the configured window length is latched. -/
def Chan.nextWindow (k : Chan) : Chan :=
  { k with
    sampler := k.sampler.sumsCleared
    ctl :=
      { k.ctl with windowChars := 0, windowErrors := 0, windowLength := k.config.windowLength } }

/-- R38: a passing window corrects the period, and takes a degraded channel back to LOCKED. -/
def State.windowPass (s : State) (c : Channel) : State :=
  let s := s.modChan c fun k => { k with sampler := k.sampler.corrected k.working.nominal }
  if (s.chan c).ctl.lock = .degraded then
    let s := s.modCtl c fun d => { d with holdoverTimer := none }
    s.enterLocked c true
  else s

/-- R40: LOCKED to DEGRADED: holdover started, the entry counted, the open record marked suspect. -/
def State.enterDegraded (s : State) (c : Channel) : State :=
  s.modChan c fun k =>
    { k with
      ctl := { k.ctl with lock := .degraded, holdoverTimer := some (s.expiryInMs k.config.holdoverMs) }
      framer :=
        { k.framer with state := k.framer.state.onRecord fun r => { r with suspect := true } }
      stats := { k.stats with degradedEntries := count32 k.stats.degradedEntries 1 } }

/-- R39, R40, R41: a failing window. `errors` and `offset` are those of the window just ended. -/
def State.windowFail (s : State) (c : Channel) (reason : FailReason) (errors : Nat)
    (offset : Int) : State :=
  match (s.chan c).ctl.lock with
  | .align => (s.modChan c Chan.leaveDecoding).retryTest c
  | .locked => (s.enterDegraded c).postChan c .degraded (.degraded reason errors offset)
  | .degraded => s.postChan c .degraded (.degraded reason errors offset)
  | .off | .quiet | .gather | .queued | .trial | .failed => s

/-- R37: a window ends: it is judged, the judgement acted on, and the next window set up. -/
def State.windowEnd (s : State) (c : Channel) : State :=
  let k := s.chan c
  let offset := k.sampler.windowOffset
  let s :=
    match judgeWindow k.ctl.windowErrors offset k.config.errorThreshold k.config.tolerance with
    | .pass => s.windowPass c
    | .fail reason => s.windowFail c reason k.ctl.windowErrors offset
  s.modChan c Chan.nextWindow

/-- R36: a character counted for the quality window, which may end it. -/
def State.countCharacter (s : State) (c : Channel) (x : Character) : State :=
  let s := s.modCtl c fun d =>
    { d with
      windowChars := d.windowChars + 1
      windowErrors := d.windowErrors + x.errored.toNat }
  let d := (s.chan c).ctl
  if d.windowLength ≤ d.windowChars then s.windowEnd c else s

/-! ### The releases (R43, R44) -/

/-- R43, R44: the channel is released: the open record closes, decoding and the timers stop, the
channel is in QUIET, the release is counted and RELEASED posted. The record's end time is the time
now (DEDUCED, notes/assumptions/22.md). -/
def State.releaseChannel (s : State) (c : Channel) (cause : Cause) (reason : ReleaseReason) :
    State :=
  let s := s.closeRecord c cause s.deviceNow
  let s := s.modChan c fun k => k.leaveDecoding.enterQuiet s.now
  let s := s.modStats c fun t => { t with releases := count32 t.releases 1 }
  s.postChan c .released (.released reason)

/-! ### Characters and breaks (R82) -/

/-- The statistics that a character event counts (R87). -/
def Statistics.countErrors (t : Statistics) (x : Character) : Statistics :=
  { t with
    parityErrors := if x.parityOk then t.parityErrors else count32 t.parityErrors 1
    framingErrors := if x.framingOk then t.framingErrors else count32 t.framingErrors 1 }

/-- R82: a character event of the start edge `t`, sampled with period `per`. The sampler goes back
to HUNT from `since`, adds the character's offset, hands it to the framer and has it counted; then
it looks for its next start edge, under the period that the window's end has left (R86). -/
def State.characterEvent (s : State) (c : Channel) (t per since : Nat) : State :=
  let k := s.chan c
  let x := decodeCharacter k.working.line k.sampler.edges t per
  let s := s.modChan c fun k =>
    { k with
      stats := k.stats.countErrors x
      sampler :=
        { k.sampler.addOffset x t per k.working.line.format.charBits with decode := .hunt since } }
  let s := s.frameCharacter c x
  let s := s.countCharacter c x
  s.modChan c Chan.settleSampler

end Sys2Proof.Machine
end

