-- ==== Sys2Proof/Machine/Trial.lean ====
section
/-! DEFINITION. The Trial Unit (chapter 3): queue and service, the rate estimate, the candidate
list, the evaluation of a candidate, outcomes and abandonment. -/

namespace Sys2Proof.Machine

/-! ### The rate estimate (R54, R55) -/

/-- `x` put into an increasing list. -/
def insertNat (x : Nat) : List Nat → List Nat
  | [] => [x]
  | y :: ys => if x ≤ y then x :: y :: ys else y :: insertNat x ys

/-- A list in increasing order. -/
def sortNat : List Nat → List Nat
  | [] => []
  | x :: xs => insertNat x (sortNat xs)

/-- R54: the estimate set in increasing order: the intervals of the second to the last entries,
less the saturated ones. -/
def estimateSet (ring : List CaptureEntry) : List Nat :=
  sortNat (((ring.drop 1).map CaptureEntry.interval).filter fun w => w != saturatedInterval)

/-- R55: the intervals of the set that lie between `w` and `w` × (1 + tolerance / 100) inclusive. -/
def clusterOf (tolerance : Nat) (set : List Nat) (w : Nat) : List Nat :=
  set.filter fun x => decide (w ≤ x) && decide (x * 100 ≤ w * (100 + tolerance))

/-- R55: 48,000,000 over the mean of a cluster, to the nearest bit/s, an exact half up. The manual
gives no rate for a mean of 0: there it is the free value `Config.rateOfZeroMean` (DESIGN CHOICE,
notes/assumptions/26.md). -/
def rateOfCluster (cluster : List Nat) : Nat :=
  if cluster.sum = 0 then Config.rateOfZeroMean cluster.length
  else (2 * ticksPerSecond * cluster.length + cluster.sum) / (2 * cluster.sum)

/-- R55: the cluster of the first base, in increasing order, that counts at least 3. -/
def firstCluster (tolerance : Nat) (set : List Nat) : Option (List Nat) :=
  (set.map (clusterOf tolerance set)).find? fun cl => decide (3 ≤ cl.length)

/-- R55: the estimated rate, or none when the estimate fails. -/
def estimateRate (tolerance : Nat) (ring : List CaptureEntry) : Option Nat :=
  (firstCluster tolerance (estimateSet ring)).map rateOfCluster

/-! ### The candidate list (R56 to R60) -/

/-- R57: an entry within the tolerance of the estimate. -/
def withinTolerance (estimate tolerance entry : Nat) : Bool :=
  decide (estimate * (100 - tolerance) ≤ entry * 100) &&
    decide (entry * 100 ≤ estimate * (100 + tolerance))

/-- The difference of two rates. -/
def rateDistance (a b : Nat) : Nat := (a - b) + (b - a)

/-- `i` put into a list ordered by the distance of its entries from the estimate, ahead of equals. -/
def insertRate (rates : Vector Nat 16) (estimate : Nat) (i : Fin 16) : List (Fin 16) → List (Fin 16)
  | [] => [i]
  | j :: js =>
    if rateDistance rates[i.val] estimate ≤ rateDistance rates[j.val] estimate then i :: j :: js
    else j :: insertRate rates estimate i js

/-- R57: rate indices by nearness to the estimate; equals keep their order. -/
def sortRates (rates : Vector Nat 16) (estimate : Nat) : List (Fin 16) → List (Fin 16)
  | [] => []
  | i :: is => insertRate rates estimate i (sortRates rates estimate is)

/-- R57: the eligible rates, in the order in which they are tried. -/
def eligibleRates (n : Snapshot) (estimate : Nat) : List (Fin 16) :=
  sortRates n.rates estimate
    ((permittedRates n.given n.search n.rates).filter fun i =>
      withinTolerance estimate n.tolerance n.rates[i.val])

/-- R58: the polarities in the order in which they are tried. -/
def polarityOrder (n : Snapshot) : List Polarity :=
  if n.search.polaritySearch then
    match n.idleLevel with
    | .high => [.normal, .inverted]
    | .low => [.inverted, .normal]
  else [n.given.polarity]

/-- R59: the permitted formats in ladder order, the given format first when it passes the masks. -/
def formatOrder (n : Snapshot) : List Format :=
  let permitted := formatLadder.filter (formatPermitted n.given n.search)
  if formatPermitted n.given n.search n.given.format then
    n.given.format :: permitted.filter fun f => decide (f ≠ n.given.format)
  else permitted

/-- The candidates of one rate: polarity by polarity, format by format (R60). -/
def candidatesAt (n : Snapshot) (i : Fin 16) : List Candidate :=
  (polarityOrder n).flatMap fun p =>
    (formatOrder n).map fun f =>
      { line := { rate := i, format := f, polarity := p }, nominal := n.rates[i.val] }

/-- R60: the built part of the list, less the candidate that equals the verify-first one. -/
def builtCandidates (n : Snapshot) (estimate : Option Nat) : List Candidate :=
  match estimate with
  | none => []
  | some r =>
    ((eligibleRates n r).flatMap (candidatesAt n)).filter fun x => decide (n.verifyFirst ≠ some x)

/-- R60: the candidate list. -/
def candidateList (n : Snapshot) (estimate : Option Nat) : List Candidate :=
  n.verifyFirst.toList ++ builtCandidates n estimate

/-! ### Evaluation (R61 to R64) -/

/-- R61: the snapshot on its time line, the first edge at `t`. -/
def placeEdges (t : Nat) : List CaptureEntry → List Edge
  | [] => []
  | e :: rest =>
    { tick := t, level := e.level } ::
      placeEdges (t + (rest.head?.map CaptureEntry.interval).getD 0) rest

/-- A sampling period of 48,000,000 / nominal ticks, unrounded (R56): whether `d` ticks are at least
`m` half periods. -/
def atLeastHalves (nominal d m : Nat) : Bool := decide (m * ticksPerSecond ≤ 2 * d * nominal)

/-- Whether `d` ticks are more than `m` half periods. -/
def beyondHalves (nominal d m : Nat) : Bool := decide (m * ticksPerSecond < 2 * d * nominal)

/-- R61: the level `m` half periods after the start edge `t`, the edges after it being `rest`. -/
def levelAfter (x : Candidate) (t : Nat) (rest : List Edge) (m : Nat) : Level :=
  rest.foldl (fun l e => if beyondHalves x.nominal (e.tick - t) m then l else e.level)
    x.line.polarity.space

/-- Whether the sample `m` half periods after the start edge reads mark. -/
def marksAt (x : Candidate) (t : Nat) (rest : List Edge) (m : Nat) : Bool :=
  decide (levelAfter x t rest m = x.line.polarity.mark)

/-- R62: whether the character from start edge `t` is errored: parity, or a stop bit at space. -/
def trialErrored (x : Candidate) (t : Nat) (rest : List Edge) : Bool :=
  let f := x.line.format
  let read (k : Nat) : Bool := marksAt x t rest (2 * k + 3)
  let data := (List.range f.dataBits).map read
  let stops := (List.range f.stopBits).map fun j => read (f.dataBits + f.parity.bits + j)
  f.parity.isError (marksIn data) (read f.dataBits) || !stops.all id

/-- Where the hunt of an evaluation stands: any edge will do (the first hunt), or the edge must come
more than `halves` half periods after tick `base`. -/
structure HuntPoint where
  base : Nat
  halves : Nat
  anyEdge : Bool
  deriving DecidableEq, Repr

/-- Whether an edge at `t` comes after the point from which the hunt goes on. -/
def HuntPoint.admits (h : HuntPoint) (nominal t : Nat) : Bool :=
  h.anyEdge || (decide (h.base < t) && (h.halves == 0 || beyondHalves nominal (t - h.base) h.halves))

/-- The hunt that goes on after tick `base`. -/
def huntAfter (base : Nat) : HuntPoint := { base := base, halves := 0, anyEdge := false }

/-- R62, R63: the decoding of the time line with candidate `x`, from the hunt `h` on; `span` is the
time of the last edge. It answers the count of characters and whether one is errored. R63 leaves
open a run of space that returns to mark at the end of the span itself, short of a break: the run
has reached the end of the span, and the line has returned to mark. It is decoded as a character,
when its last stop-bit position lies within the span (DESIGN CHOICE, notes/assumptions/29.md). -/
def evaluateFrom (x : Candidate) (span : Nat) : List Edge → HuntPoint → Nat → Bool → Nat × Bool
  | [], _, count, bad => (count, bad)
  | e :: rest, h, count, bad =>
    let cb := x.line.format.charBits
    if e.level ≠ x.line.polarity.space ∨ h.admits x.nominal e.tick = false then
      evaluateFrom x span rest h count bad
    else
      match rest with
      | [] => (count, bad)
      | next :: _ =>
        if atLeastHalves x.nominal (next.tick - e.tick) (2 * (cb + 1)) then
          evaluateFrom x span rest (huntAfter next.tick) count bad
        else if marksAt x e.tick rest 1 then
          evaluateFrom x span rest (huntAfter e.tick) count bad
        else if atLeastHalves x.nominal (span - e.tick) (2 * cb - 1) then
          evaluateFrom x span rest { base := e.tick, halves := 2 * cb - 1, anyEdge := false }
            (count + 1) (bad || trialErrored x e.tick rest)
        else (count, bad)

/-- The evaluation of a candidate on a snapshot's ring: characters decoded, and whether one is
errored. -/
def evaluate (ring : List CaptureEntry) (x : Candidate) : Nat × Bool :=
  let edges := placeEdges 0 ring
  evaluateFrom x ((edges.getLast?.map Edge.tick).getD 0) edges
    { base := 0, halves := 0, anyEdge := true } 0 false

/-- R64: a candidate fits. -/
def fits (n : Snapshot) (x : Candidate) : Bool :=
  let r := evaluate n.ring x
  decide (n.minCharacters ≤ r.1) && !r.2

/-! ### Queue and service (R47 to R51) -/

/-- R51: the verify-first source: the working profile, if confirmed. -/
def WorkingProfile.verifyFirst (w : WorkingProfile) : Option Candidate :=
  if w.confirmed then some { line := w.line, nominal := w.nominal } else none

/-- R51: the copies made at trial start. -/
def Chan.snapshot (k : Chan) (rates : Vector Nat 16) : Snapshot :=
  { ring := k.sampler.ring
    idleLevel := k.sampler.idleLevel
    rates := rates
    given := k.given.line
    search := k.given.search
    verifyFirst := k.working.verifyFirst
    tolerance := k.config.tolerance
    minCharacters := k.config.minCharacters
    candidateBudget := k.config.candidateBudget }

/-- A trial of channel `c` at its start. -/
def newTrial (c : Channel) (n : Snapshot) : Trial :=
  { channel := c, snapshot := n, estimate := none, candidates := none, position := 0
    verdict := none }

/-- R49, R51: the free unit takes the head of the queue into service. With the unit busy, or the
queue empty, nothing is taken. -/
def State.takeHead (s : State) : State :=
  match s.trial.service, s.trial.queue with
  | none, c :: rest =>
    let n := (s.chan c).snapshot s.rates
    let s := s.modCtl c fun d => { d with lock := .trial }
    { s with trial := { service := some (newTrial c n), queue := rest } }
  | none, [] => s
  | some _, _ => s

/-! ### The phases (R53, R55, R60, R65) -/

/-- R53, R60: the trial after its estimate and list phases. -/
def Trial.estimated (t : Trial) : Trial :=
  let estimate := estimateRate t.snapshot.tolerance t.snapshot.ring
  let list := candidateList t.snapshot estimate
  match estimate, list with
  | none, [] =>
    { t with estimate := none, verdict := some { outcome := .noRate, chosen := none } }
  | some r, [] =>
    { t with
      estimate := some r
      candidates := some []
      verdict := some { outcome := .noCandidate, chosen := none } }
  | e, x :: xs => { t with estimate := e, candidates := some (x :: xs) }

/-- R65: what follows an evaluation that has not fitted, `done` evaluations being finished of a list
of `total`. -/
def afterMiss (estimate : Option Nat) (done total budget : Nat) : Option Verdict :=
  if total ≤ done then
    some { outcome := if estimate.isSome then .noFit else .noRate, chosen := none }
  else if budget ≤ done then some { outcome := .budget, chosen := none }
  else none

/-- R64, R65: the trial after the evaluation of candidate `x` of a list of `total`. -/
def Trial.evaluated (t : Trial) (x : Candidate) (total : Nat) : Trial :=
  { t with
    position := t.position + 1
    verdict :=
      if fits t.snapshot x then some { outcome := .fit, chosen := some x }
      else afterMiss t.estimate (t.position + 1) total t.snapshot.candidateBudget }

/-- R67: the report of a trial that ends now with `v`. -/
def Trial.report (t : Trial) (v : Verdict) (now : BitVec 32) : TrialReport :=
  { outcome := v.outcome, evaluated := t.position, estimate := t.estimate, chosen := v.chosen
    completed := now }

/-! ### Outcomes (R29, R30, R66) -/

/-- R29: the FIT outcome of channel `c`. -/
def State.trialFit (s : State) (c : Channel) (r : TrialReport) (best : Candidate) : State :=
  let before := (s.chan c).working.epoch
  let s := s.modChan c fun k =>
    { k.writeFit best with
      ctl := { k.ctl with report := some r }
      stats := { k.stats with fits := count32 k.stats.fits 1 } }
  let w := (s.chan c).working
  let s := if w.epoch = before then s else s.postChan c .profile (.profile w.epoch w.line)
  s.enterAlign c

/-- R30: a failing outcome of channel `c`. -/
def State.trialFailed (s : State) (c : Channel) (r : TrialReport) : State :=
  (s.modChan c fun k =>
    { k with
      ctl := { k.ctl with report := some r }
      stats := { k.stats with failedTrials := count32 k.stats.failedTrials 1 } }).retryTest c

/-- R66: the outcome `v` of trial `t` handed back; the unit becomes free and takes the next head. -/
def State.handBack (s : State) (t : Trial) (v : Verdict) : State :=
  let r := t.report v s.deviceNow
  let s := { s with trial := { s.trial with service := none } }
  let s :=
    match v.chosen with
    | some best => s.trialFit t.channel r best
    | none => s.trialFailed t.channel r
  s.takeHead

/-! ### Abandonment (R31, R50, R68) -/

/-- Whether channel `c` is in service. -/
def State.inService (s : State) (c : Channel) : Bool :=
  match s.trial.service with
  | some t => decide (t.channel = c)
  | none => false

/-- R50: channel `c` leaves the trial queue; the others keep their order. -/
def State.leaveQueue (s : State) (c : Channel) : State :=
  { s with trial := { s.trial with queue := s.trial.queue.filter fun d => decide (d ≠ c) } }

/-- R68: the trial in service of channel `c` is abandoned: the report is stored, the abandoned
trials statistic counts it, and the unit is free. -/
def State.abandonTrial (s : State) (c : Channel) : State :=
  match s.trial.service with
  | some t =>
    if t.channel = c then
      let r := t.report { outcome := .abandoned, chosen := none } s.deviceNow
      let s := { s with trial := { s.trial with service := none } }
      s.modChan c fun k =>
        { k with
          ctl := { k.ctl with report := some r }
          stats := { k.stats with abandonedTrials := count32 k.stats.abandonedTrials 1 } }
    else s
  | none => s

/-- R31: what a channel has in the Trial Unit is given up: its queue place, or its trial. -/
def State.giveUpTrial (s : State) (c : Channel) : State := (s.leaveQueue c).abandonTrial c

/-- R68: the unit that an abandonment has freed takes the next head. `freed` says that it has. -/
def State.takeHeadIf (s : State) (freed : Bool) : State := if freed then s.takeHead else s

/-! ### The work of a state undone (R21, R24) -/

/-- R21, R24: the work of the present lock state is undone: a queue place or a trial given up, an
open record closed with cause HALT, decoding, hunt, window and timers stopped. -/
def State.undoWork (s : State) (c : Channel) : State :=
  match (s.chan c).ctl.lock with
  | .off | .quiet | .failed => s
  | .gather => s.modCtl c fun d => { d with gatherTimer := none }
  | .queued | .trial => s.giveUpTrial c
  | .align | .locked | .degraded =>
    (s.closeRecord c .halt s.deviceNow).modChan c Chan.leaveDecoding

end Sys2Proof.Machine
end

