-- ==== Sys2Proof/Machine/Operands.lean ====
section
/-! DEFINITION. The operands of the requests and the fields of the responses and notices as bytes:
the codes and layouts of section 10.7 (R179 to R181), and the frame check (R173). -/

namespace Sys2Proof.Machine

/-! ### Little-endian numbers -/

/-- `v` in `n` bytes, least significant first. -/
def le : Nat → Nat → List Byte
  | 0, _ => []
  | n + 1, v => BitVec.ofNat 8 v :: le n (v / 256)

/-- The number that bytes spell, least significant first. -/
def leValue : List Byte → Nat
  | [] => 0
  | b :: rest => b.toNat + 256 * leValue rest

/-- One byte holding `v`. -/
def byte (v : Nat) : Byte := BitVec.ofNat 8 v

/-- A signed byte. -/
def signedByte (v : Int) : Byte := BitVec.ofInt 8 v

/-- The `n` bytes of a body from an offset. -/
def fieldBytes (b : List Byte) (offset n : Nat) : List Byte := (b.drop offset).take n

/-- The field of `n` bytes of a body at an offset. -/
def field (b : List Byte) (offset n : Nat) : Nat := leValue (fieldBytes b offset n)

/-! ### The frame check (R173) -/

/-- One bit of the division by x^16 + x^12 + x^5 + 1. -/
def crcShift (r : BitVec 16) : BitVec 16 :=
  if r.msb then (r <<< 1) ^^^ 0x1021#16 else r <<< 1

/-- The register after one byte, most significant bit first. -/
def crcByte (r : BitVec 16) (b : Byte) : BitVec 16 :=
  let r := r ^^^ (b.zeroExtend 16 <<< 8)
  crcShift (crcShift (crcShift (crcShift (crcShift (crcShift (crcShift (crcShift r)))))))

/-- R173: the CRC-16 over bytes in the order received: initial value FFFFh, no reflection, no final
XOR. -/
def crc16 (bytes : List Byte) : BitVec 16 := bytes.foldl crcByte 0xFFFF#16

/-- A check value, high byte first. -/
def checkBytes (v : BitVec 16) : List Byte := [v.extractLsb' 8 8, v.extractLsb' 0 8]

/-- A check value read high byte first. -/
def checkValue (hi lo : Byte) : BitVec 16 := hi ++ lo

/-- The bytes a frame's check covers: length, kind, tag, channel and body (R173). -/
def coveredBytes (kind tag channel : Byte) (body : List Byte) : List Byte :=
  le 2 body.length ++ [kind, tag, channel] ++ body

/-- R179: a whole frame. -/
def frameBytes (kind tag channel : Byte) (body : List Byte) : List Byte :=
  [0xA5#8, 0x5A#8] ++ coveredBytes kind tag channel body ++
    checkBytes (crc16 (coveredBytes kind tag channel body))

/-! ### Codes (R179) -/

/-- The result codes. -/
inductive Result
  | ok
  | empty
  | busy
  | badChannel
  | badValue
  | badState
  | badLength
  | unknownKind
  | noLease
  | stale
  deriving DecidableEq, Repr

/-- The code of a result. -/
def Result.code : Result → Byte
  | .ok => 0x00#8
  | .empty => 0x01#8
  | .busy => 0x02#8
  | .badChannel => 0x03#8
  | .badValue => 0x04#8
  | .badState => 0x05#8
  | .badLength => 0x06#8
  | .unknownKind => 0x07#8
  | .noLease => 0x08#8
  | .stale => 0x09#8

/-- The code of a lock state. -/
def LockState.code : LockState → Nat
  | .off => 0
  | .quiet => 1
  | .gather => 2
  | .queued => 3
  | .trial => 4
  | .align => 5
  | .locked => 6
  | .degraded => 7
  | .failed => 8

/-- The code of a trial outcome. -/
def TrialOutcome.code : TrialOutcome → Nat
  | .fit => 0
  | .noRate => 1
  | .noCandidate => 2
  | .noFit => 3
  | .budget => 4
  | .abandoned => 5

/-- The code of a polarity. -/
def Polarity.code : Polarity → Nat
  | .normal => 0
  | .inverted => 1

/-- The code of a framing mode. -/
def FramingMode.code : FramingMode → Nat
  | .gap => 0
  | .delim => 1
  | .length => 2

/-- The code of a closure cause. -/
def Cause.code : Cause → Nat
  | .delim => 0
  | .gap => 1
  | .length => 2
  | .oversize => 3
  | .brk => 4
  | .close => 5
  | .halt => 6
  | .lockLoss => 7
  | .dormant => 8

/-- The code of a mode. -/
def Mode.code : Mode → Nat
  | .off => 0
  | .listen => 1

/-- The code of a HOLD polarity. -/
def HoldPolarity.code : HoldPolarity → Nat
  | .activeLow => 0
  | .activeHigh => 1

/-- The code of a fill state. -/
def Fill.code : Fill → Nat
  | .low => 0
  | .high => 1

/-- The code of a failing window's reason (R181). -/
def FailReason.code : FailReason → Nat
  | .errors => 0
  | .drift => 1

/-- The code of a release reason (R181). -/
def ReleaseReason.code : ReleaseReason → Nat
  | .holdover => 0
  | .dormant => 1

/-- The code of a start reason (R181). -/
def StartReason.code : StartReason → Nat
  | .power => 0
  | .pin => 1
  | .soft => 2

/-- The parity of a code. -/
def parityOfCode : Nat → Option Parity
  | 0 => some .none
  | 1 => some .even
  | 2 => some .odd
  | 3 => some .mark
  | 4 => some .space
  | _ => none

/-- The polarity of a code. -/
def polarityOfCode : Nat → Option Polarity
  | 0 => some .normal
  | 1 => some .inverted
  | _ => none

/-- The framing mode of a code. -/
def framingModeOfCode : Nat → Option FramingMode
  | 0 => some .gap
  | 1 => some .delim
  | 2 => some .length
  | _ => none

/-- The mode of a code. -/
def modeOfCode : Nat → Option Mode
  | 0 => some .off
  | 1 => some .listen
  | _ => none

/-- The HOLD polarity of a code. -/
def holdPolarityOfCode : Nat → Option HoldPolarity
  | 0 => some .activeLow
  | 1 => some .activeHigh
  | _ => none

/-- A yes/no field. -/
def flagOfCode : Nat → Option Bool
  | 0 => some false
  | 1 => some true
  | _ => none

/-! ### The configuration record, 29 bytes (R157, R179) -/

/-- The bytes of a configuration record. -/
def ChannelConfig.encode (k : ChannelConfig) : List Byte :=
  le 1 k.mode.code ++ le 1 k.glitchLimit ++ le 2 k.gatherTarget ++ le 2 k.gatherQuietMs ++
  le 1 k.minCharacters ++ le 2 k.candidateBudget ++ le 1 k.retryLimit ++ le 1 k.tolerance ++
  le 2 k.windowLength ++ le 2 k.errorThreshold ++ le 2 k.holdoverMs ++ le 2 k.dormantS ++
  le 2 k.segmentCap ++ le 2 k.highMark ++ le 2 k.lowMark ++ le 1 k.holdEnable.toNat ++
  le 1 k.holdPolarity.code ++ le 2 k.leaseTimeoutMs

/-- The configuration record that 29 bytes spell, if every field and cross-check of R157 holds. -/
def parseConfig (b : List Byte) : Option ChannelConfig :=
  match modeOfCode (field b 0 1), flagOfCode (field b 25 1), holdPolarityOfCode (field b 26 1) with
  | some mode, some enable, some polarity =>
    let k : ChannelConfig :=
      { mode := mode
        glitchLimit := field b 1 1
        gatherTarget := field b 2 2
        gatherQuietMs := field b 4 2
        minCharacters := field b 6 1
        candidateBudget := field b 7 2
        retryLimit := field b 9 1
        tolerance := field b 10 1
        windowLength := field b 11 2
        errorThreshold := field b 13 2
        holdoverMs := field b 15 2
        dormantS := field b 17 2
        segmentCap := field b 19 2
        highMark := field b 21 2
        lowMark := field b 23 2
        holdEnable := enable
        holdPolarity := polarity
        leaseTimeoutMs := field b 27 2 }
    if k.valid then some k else none
  | _, _, _ => none

/-! ### Profile blocks (R180) -/

/-- The five bytes of the line fields. -/
def LineFields.encode (l : LineFields) : List Byte :=
  le 1 l.rate.val ++ le 1 l.format.dataBits ++ le 1 l.format.parity.code ++
    le 1 l.format.stopBits ++ le 1 l.polarity.code

/-- The six bytes of the search fields. -/
def SearchFields.encode (m : SearchFields) : List Byte :=
  le 2 m.rateMask.toNat ++ le 1 m.dataMask.toNat ++ le 1 m.parityMask.toNat ++
    le 1 m.stopMask.toNat ++ le 1 m.polaritySearch.toNat

/-- The four delimiter slots, unused ones 00h. -/
def delimiterSlots (ds : List Byte) : List Byte := (ds ++ [0#8, 0#8, 0#8, 0#8]).take 4

/-- The fourteen bytes of the framing fields. -/
def FramingFields.encode (f : FramingFields) : List Byte :=
  le 1 f.mode.code ++ le 1 f.gapLimit ++ le 1 f.delimiters.length ++ delimiterSlots f.delimiters ++
    le 1 f.delimiterKept.toNat ++ le 1 f.startChar.isSome.toNat ++ [f.startChar.getD 0#8] ++
    le 2 f.recordLength ++ le 2 f.maxRecordLength

/-- R180: the given profile block, 25 bytes. -/
def GivenProfile.encode (g : GivenProfile) : List Byte :=
  g.line.encode ++ g.search.encode ++ g.framing.encode

/-- R180: the working profile block, 23 bytes. -/
def WorkingProfile.encode (w : WorkingProfile) : List Byte :=
  w.line.encode ++ le 4 w.nominal ++ w.framing.encode

/-- The line fields of a given profile block. -/
def parseLine (b : List Byte) : Option LineFields :=
  match parityOfCode (field b 2 1), polarityOfCode (field b 4 1) with
  | some parity, some polarity =>
    if h : field b 0 1 < 16 then
      some
        { rate := ⟨field b 0 1, h⟩
          format := { dataBits := field b 1 1, parity := parity, stopBits := field b 3 1 }
          polarity := polarity }
    else none
  | _, _ => none

/-- The search fields of a given profile block; a set bit marked "must be 0" is refused. -/
def parseSearch (b : List Byte) : Option SearchFields :=
  match flagOfCode (field b 10 1) with
  | some search =>
    if field b 7 1 < 16 ∧ field b 8 1 < 32 ∧ field b 9 1 < 4 then
      some
        { rateMask := BitVec.ofNat 16 (field b 5 2)
          dataMask := BitVec.ofNat 4 (field b 7 1)
          parityMask := BitVec.ofNat 5 (field b 8 1)
          stopMask := BitVec.ofNat 2 (field b 9 1)
          polaritySearch := search }
    else none
  | none => none

/-- The framing fields of a given profile block. A delimiter count above 4 is refused. -/
def parseFraming (b : List Byte) : Option FramingFields :=
  match framingModeOfCode (field b 11 1), flagOfCode (field b 18 1), flagOfCode (field b 19 1) with
  | some mode, some kept, some present =>
    if field b 13 1 ≤ 4 then
      some
        { mode := mode
          gapLimit := field b 12 1
          delimiters := fieldBytes b 14 (field b 13 1)
          delimiterKept := kept
          startChar := if present then some (byte (field b 20 1)) else none
          recordLength := field b 21 2
          maxRecordLength := field b 23 2 }
    else none
  | _, _, _ => none

/-- R9, R10: the given profile that 25 bytes spell, under the rate table `rates`, if every check of
R9 holds. -/
def parseGiven (b : List Byte) (rates : Vector Nat 16) : Option GivenProfile :=
  match parseLine b, parseSearch b, parseFraming b with
  | some line, some search, some framing =>
    let g : GivenProfile := { line := line, search := search, framing := framing }
    if g.valid && rates[line.rate.val] != 0 then some g else none
  | _, _, _ => none

/-! ### Rates (R4, R5) -/

/-- The sixteen entries of a SET_RATES body. -/
def parseRates (b : List Byte) : Vector Nat 16 :=
  #v[field b 0 4, field b 4 4, field b 8 4, field b 12 4, field b 16 4, field b 20 4,
     field b 24 4, field b 28 4, field b 32 4, field b 36 4, field b 40 4, field b 44 4,
     field b 48 4, field b 52 4, field b 56 4, field b 60 4]

/-- The sixteen entries as bytes. -/
def encodeRates (rates : Vector Nat 16) : List Byte := rates.toList.flatMap (le 4)

/-! ### Status, statistics, descriptors (R161 to R164, R179, R181) -/

/-- The nine bytes of a chosen candidate; all 0 when absent. -/
def encodeChosen : Option Candidate → List Byte
  | some x =>
    le 1 x.line.rate.val ++ le 4 x.nominal ++ le 1 x.line.format.dataBits ++
      le 1 x.line.format.parity.code ++ le 1 x.line.format.stopBits ++ le 1 x.line.polarity.code
  | none => le 9 0

/-- The twenty bytes of a trial report; all 0 when absent. -/
def encodeReport : Option TrialReport → List Byte
  | some r =>
    le 1 r.outcome.code ++ le 2 r.evaluated ++ le 4 (r.estimate.getD 0) ++ encodeChosen r.chosen ++
      le 4 r.completed.toNat
  | none => le 20 0

/-- R130: the remaining time of a lease in whole milliseconds, 0 once the instant has passed. -/
def Lease.remainingMs (l : Lease) (now : Nat) : Nat := (l.expiry - now) / 48000

/-- The lease fields of the status record. -/
def encodeLease (now : Nat) : Option Lease → List Byte
  | some l => le 1 1 ++ le 2 l.id ++ le 1 l.records.length ++ le 2 (l.remainingMs now)
  | none => le 6 0

/-- R88: the stored count of the open record, 0 when none is open. -/
def Chan.openLength (k : Chan) : Nat :=
  match k.openRecord? with
  | some r => r.bytes.length
  | none => 0

/-- R161, R179: the status record, 74 bytes. The window fields read 0 while the channel does not
decode. -/
def Chan.encodeStatus (k : Chan) (now : Nat) : List Byte :=
  let decoding := k.ctl.lock.decoding
  le 1 k.config.mode.code ++ le 1 k.ctl.lock.code ++ le 1 k.ctl.retryCount ++
  k.working.encode ++ le 1 k.working.confirmed.toNat ++ [k.working.epoch] ++
  le 1 k.pendingUpdate.toNat ++
  le 2 (if decoding then k.ctl.windowChars else 0) ++
  le 2 (if decoding then k.ctl.windowErrors else 0) ++
  [signedByte (if decoding then k.sampler.windowOffset else 0)] ++
  [signedByte k.sampler.trackedOffset] ++
  le 1 k.ctl.report.isSome.toNat ++ encodeReport k.ctl.report ++
  le 2 k.store.queue.length ++ le 4 (byteSum k.store.queue) ++ le 2 k.openLength ++
  le 2 k.store.held ++ le 1 k.store.fill.code ++ le 1 k.store.hold.toNat ++
  encodeLease now k.store.lease

/-- R162, R163: the fifteen statistics. -/
def Statistics.encode (t : Statistics) : List Byte :=
  [t.recordsClosed, t.recordsDropped, t.bytesStored, t.bytesLost, t.parityErrors, t.framingErrors,
    t.breaks, t.falseStarts, t.fits, t.failedTrials, t.abandonedTrials, t.degradedEntries,
    t.releases, t.discardedBeforeAlignment, t.preambleBytes].flatMap (le 4)

/-- R164: the pools and the refusal counters. -/
def Pools.encode (p : Pools) : List Byte :=
  le 2 p.freeSegments ++ le 2 p.freeDescriptors ++ le 4 p.capRefusals ++ le 4 p.poolRefusals ++
    le 4 p.descriptorRefusals

/-- R181: the flags byte of a descriptor. -/
def Record.flags (r : Record) : Nat :=
  r.truncated.toNat + 2 * r.suspect.toNat + 4 * r.firstError.isSome.toNat +
    8 * r.preamble.isSome.toNat

/-- R181: a record descriptor, 26 bytes. -/
def Record.encode (r : Record) : List Byte :=
  le 4 r.seq.toNat ++ le 4 r.startTime.toNat ++ le 4 r.endTime.toNat ++ le 2 r.bytes.length ++
  le 2 r.lost ++ le 1 r.cause.code ++ le 1 r.flags ++ le 1 r.parityErrors ++
  le 1 r.framingErrors ++ le 2 (r.firstError.getD 0) ++ le 2 (r.preamble.getD 0) ++ [r.epoch] ++
  le 1 r.redelivery

/-- R155: the fields of HELLO. -/
def helloFields : List Byte :=
  le 2 0x0A57 ++ le 2 0x4C38 ++ le 1 partRevision ++ le 1 8 ++ le 2 512 ++ le 1 32 ++ le 2 256 ++
    le 2 1088

/-! ### Notices (R142, R151, R181) -/

/-- The place of a channel kind among the nine of its channel (R142); also its notice kind code
(R181). -/
def ChannelKind.place : ChannelKind → Nat
  | .locked => 0
  | .degraded => 1
  | .released => 2
  | .failed => 3
  | .profile => 4
  | .ready => 5
  | .fill => 6
  | .expired => 7
  | .dropped => 8

/-- The place of a device kind after the channel slots. -/
def DeviceKind.place : DeviceKind → Nat
  | .started => 0
  | .linkError => 1
  | .pool => 2

/-- R142: the number of a slot, 0..74. -/
def Slot.number : Slot → Nat
  | .chan c k => 9 * c.val + k.place
  | .device k => 72 + k.place

/-- R142: the class of a slot. -/
def Slot.rank : Slot → Nat
  | .device _ => 1
  | .chan _ .released => 1
  | .chan _ .failed => 1
  | .chan _ .dropped => 1
  | .chan _ .degraded => 2
  | .chan _ .fill => 2
  | .chan _ .expired => 2
  | .chan _ .locked => 3
  | .chan _ .profile => 3
  | .chan _ .ready => 3

/-- R181: the notice kind code. -/
def Slot.kindCode : Slot → Nat
  | .chan _ k => k.place
  | .device k => 9 + k.place

/-- The channel field of a notice: the slot's channel, or FFh (R151). -/
def Slot.channelCode : Slot → Byte
  | .chan c _ => byte c.val
  | .device _ => 0xFF#8

/-- The lock state code of a notice at send; FFh for a device kind (R151). -/
def State.lockCodeFor (s : State) : Slot → Byte
  | .chan c _ => byte (s.chan c).ctl.lock.code
  | .device _ => 0xFF#8

/-- The three bytes of a format. -/
def Format.encode (f : Format) : List Byte :=
  le 1 f.dataBits ++ le 1 f.parity.code ++ le 1 f.stopBits

/-- The channel a slot belongs to; the values read at send of a device slot belong to none. -/
def Slot.owner : Slot → Channel
  | .chan c _ => c
  | .device _ => 0

/-- R144, R181: the kind values of a notice, those taken at send read now. -/
def State.kindValues (s : State) (n : Notice) : List Byte :=
  let st := (s.chan n.slot.owner).store
  match n.values with
  | .started reason revision => le 1 reason.code ++ le 1 revision
  | .linkError a b c d => le 2 a ++ le 2 b ++ le 2 c ++ le 2 d
  | .pool failures => le 2 s.pools.freeSegments ++ le 2 s.pools.freeDescriptors ++ le 2 failures
  | .locked epoch nominal format regained =>
    [epoch] ++ le 4 nominal ++ format.encode ++ le 1 regained.toNat
  | .degraded reason errors offset => le 1 reason.code ++ le 2 errors ++ [signedByte offset]
  | .released reason => le 1 reason.code
  | .failed outcome retry => le 1 outcome.code ++ le 1 retry
  | .profile epoch line => [epoch] ++ line.encode
  | .ready => le 2 st.queue.length ++ le 4 (byteSum st.queue)
  | .fill crossings => le 1 st.fill.code ++ le 2 st.held ++ le 2 crossings
  | .expired id returned => le 2 id ++ le 1 returned
  | .dropped count => le 2 count ++ le 4 ((st.lastDropped.getD 0).toNat)

/-- R151, R181: the body of a notice sent now. -/
def State.noticeBody (s : State) (n : Notice) : List Byte :=
  [byte n.slot.kindCode, n.slot.channelCode] ++ le 1 n.count ++ [s.lockCodeFor n.slot] ++
    le 2 s.notices.nextSeq.toNat ++ le 4 (BitVec.ofNat 32 n.postedAt).toNat ++ s.kindValues n

end Sys2Proof.Machine
end

