-- ==== Sys2Proof/Machine/Link.lean ====
section
/-! DEFINITION. The Host Link Controller (chapter 10): the receiver, the taking of requests, the
reply cache, and the outbound arbiter. -/

namespace Sys2Proof.Machine

/-- The next state of a command that a device held in reset does not see (R170). -/
def State.whileRunning (s : State) (f : State → State) :
    Host.Outcome State Fault Refusal :=
  .next (if s.running then f s else s)

/-- `f` on the link. -/
def State.modLink (s : State) (f : HostLink → HostLink) : State := { s with link := f s.link }

/-- `f` on the receiver. -/
def State.modReceiver (s : State) (f : Receiver → Receiver) : State :=
  s.modLink fun l => { l with receiver := f l.receiver }

/-! ### Receiving (R172, R173) -/

/-- The causes for which a frame is discarded and counted (R173). -/
inductive Discard
  | crc
  | length
  | timeout
  | overrun
  deriving DecidableEq, Repr

/-- R145: the contribution of a discard to LINK_ERROR. -/
def Discard.values : Discard → NoticeValues
  | .crc => .linkError 1 0 0 0
  | .length => .linkError 0 1 0 0
  | .timeout => .linkError 0 0 1 0
  | .overrun => .linkError 0 0 0 1

/-- The receiver back in HUNT (R172). -/
def Receiver.rest (r : Receiver) : Receiver := { r with state := .hunt, buffer := [] }

/-- R173, R178: a discard with a cause posts LINK_ERROR, except while a RESTART waits to take
effect. -/
def State.countDiscard (s : State) (d : Discard) : State :=
  if s.link.restart = .idle then s.post (.device .linkError) d.values else s

/-- The body length of the frame in hand. -/
def Receiver.length (r : Receiver) : Nat := field r.buffer 0 2

/-- R172: both length bytes are in and the length exceeds 1088. -/
def Receiver.overLong (r : Receiver) : Bool :=
  decide (r.state = .header) && decide (r.buffer.length = 2) && decide (1088 < r.length)

/-- R173: both check bytes are in. -/
def Receiver.complete (r : Receiver) : Bool :=
  decide (r.state = .check) && decide (7 + r.length ≤ r.buffer.length)

/-- The frame that a complete receiver holds. -/
def Receiver.frame (r : Receiver) : Frame :=
  let n := r.length
  { kind := r.buffer.getD 2 0
    tag := r.buffer.getD 3 0
    channel := r.buffer.getD 4 0
    body := fieldBytes r.buffer 5 n
    check := checkValue (r.buffer.getD (5 + n) 0) (r.buffer.getD (6 + n) 0) }

/-- R173: the bytes the check covers, as received. -/
def Receiver.covered (r : Receiver) : List Byte := r.buffer.take (5 + r.length)

/-- R173: the CRC computed over the frame matches the one received. -/
def Receiver.checks (r : Receiver) : Bool := decide (crc16 r.covered = r.frame.check)

/-- R173, R178: a complete frame is checked and enters the inbox, or is discarded. The receiver
returns to HUNT. While a RESTART waits to take effect it is discarded uncounted. -/
def State.finishFrame (s : State) : State :=
  let r := s.link.receiver
  let s := s.modReceiver Receiver.rest
  if s.link.restart ≠ .idle then s
  else if r.checks then
    if s.link.inbox.length < 4 then s.modLink fun l => { l with inbox := l.inbox ++ [r.frame] }
    else s.countDiscard .overrun
  else s.countDiscard .crc

/-- R172: a frame whose length exceeds 1088 is discarded with cause LENGTH. -/
def State.discardLength (s : State) : State :=
  (s.modReceiver Receiver.rest).countDiscard .length

/-- R172: the frame in hand is discarded with cause TIMEOUT. -/
def State.discardTimeout (s : State) : State :=
  (s.modReceiver Receiver.rest).countDiscard .timeout

/-- R172: the receiver is inside a frame that is neither complete nor over-long. -/
def Receiver.insideFrame (r : Receiver) : Bool :=
  match r.state with
  | .header | .body | .check => !r.complete && !r.overLong
  | .hunt | .sync2 => false

/-- R172: the first tick at which more than 20 ms have passed since the last byte of the frame. -/
def Receiver.timeoutTick (r : Receiver) : Nat := r.lastByte + 960000 + 1

/-- What the receiver owes before it handles a byte: a complete or over-long frame is finished, and
a frame whose 20 ms have passed is discarded (DEDUCED, notes/assumptions/8.md). -/
def State.settleReceiver (s : State) : State :=
  let r := s.link.receiver
  if r.complete then s.finishFrame
  else if r.overLong then s.discardLength
  else if r.insideFrame && decide (r.timeoutTick ≤ s.now) then s.discardTimeout
  else s

/-- The receiver with a byte of the frame added at tick `now`. -/
def Receiver.add (r : Receiver) (b : Byte) (now : Nat) : Receiver :=
  { r with buffer := r.buffer ++ [b], lastByte := now }

/-- R172: one byte, by receiver state. -/
def Receiver.accept (r : Receiver) (b : Byte) (now : Nat) : Receiver :=
  match r.state with
  | .hunt => if b = 0xA5#8 then { r with state := .sync2, buffer := [] } else r
  | .sync2 =>
    if b = 0x5A#8 then { state := .header, buffer := [], lastByte := now }
    else if b = 0xA5#8 then r
    else r.rest
  | .header =>
    let r := r.add b now
    if 5 ≤ r.buffer.length then { r with state := if r.length = 0 then .check else .body } else r
  | .body =>
    let r := r.add b now
    if 5 + r.length ≤ r.buffer.length then { r with state := .check } else r
  | .check => r.add b now

/-- A byte passed to the receiver. -/
def State.receiveByte (s : State) (b : Byte) : State :=
  let s := s.settleReceiver
  s.modReceiver fun r => r.accept b s.now

/-! ### The transmit path (R171, R177) -/

/-- R171: the byte shifted out while the host clocks one in: the next of the frame being sent, or
00h. The frame stays on the path when its last byte has gone out, until FRAME_SENT_WHOLE or the next
byte clocked ends it (DESIGN CHOICE, notes/assumptions/32.md). -/
def HostLink.shiftOut (l : HostLink) : HostLink :=
  match l.transmit with
  | some t =>
    { l with
      sdo := t.frame.getD t.clocked 0#8
      transmit := some { t with clocked := t.clocked + 1 } }
  | none => { l with sdo := 0#8 }

/-- R171: the bit rate of a UART selection; none for SPI. -/
def LinkSelection.bitRate : LinkSelection → Option Nat
  | .uart115200 => some 115200
  | .uart921600 => some 921600
  | .uart3000000 => some 3000000
  | .spi => none

/-- The tick by which a UART has sent a frame whole: ten bits a byte, back to back (R171, R177; DEDUCED,
notes/assumptions/17.md). -/
def Transmit.sentTick (t : Transmit) (rate : Nat) : Nat :=
  t.started + (t.frame.length * 10 * ticksPerSecond + rate - 1) / rate

/-- A frame started on the transmit path. -/
def State.startFrame (s : State) (kind tag channel : Byte) (body : List Byte) : State :=
  s.modLink fun l =>
    { l with
      transmit :=
        some { frame := frameBytes kind tag channel body, clocked := 0, started := s.now } }

/-- R177: the path is at a frame boundary: idle, and no soft restart is about to take effect. -/
def HostLink.atBoundary (l : HostLink) : Bool :=
  l.transmit.isNone && decide (l.restart ≠ .due)

/-- R177: something that becomes ready on an idle path starts its frame at once. That is a UART: in
the SPI selection a frame starts at the next byte the host clocks with SCS low, and until then the
response and the notice stay where they wait (R149, R175). -/
def HostLink.startsAtOnce (l : HostLink) : Bool :=
  l.atBoundary && decide (l.selection ≠ .spi)

/-- R175, R177: the head of the response queue is sent. -/
def State.sendResponse (s : State) : State :=
  match s.link.responses with
  | r :: rest =>
    (s.modLink fun l => { l with responses := rest }).startFrame r.kind r.tag r.channel r.body
  | [] => s

/-- R146: notice `a` stands before `b`: by class, then by when the slots became pending, then by
slot number. -/
def Notice.before (a b : Notice) : Bool :=
  decide (a.slot.rank < b.slot.rank) ||
    (a.slot.rank == b.slot.rank &&
      (decide (a.postedAt < b.postedAt) ||
        (a.postedAt == b.postedAt && decide (a.slot.number < b.slot.number))))

/-- R146: the first of the pending notices in notice order. -/
def firstNotice : List Notice → Option Notice
  | [] => none
  | n :: rest =>
    match firstNotice rest with
    | none => some n
    | some m => if m.before n then some m else some n

/-- R146: the notice on offer: the first in notice order, while the credit is at least 1. -/
def State.offeredNotice (s : State) : Option Notice :=
  if 1 ≤ s.notices.credit then firstNotice s.notices.pending else none

/-- R149, R177: notice `n` is sent: its body built, credit one less, the sequence one more, its slot
idle. A notice frame has kind C0h and tag 00h. -/
def State.sendNotice (s : State) (n : Notice) : State :=
  let body := s.noticeBody n
  let s := { s with notices :=
    { pending := s.notices.pending.filter fun m => decide (m.slot ≠ n.slot)
      credit := s.notices.credit - 1
      nextSeq := s.notices.nextSeq + 1 } }
  s.startFrame 0xC0#8 0x00#8 n.slot.channelCode body

/-- R177: the decision at a frame boundary: a response, else a notice, else the path stays idle. -/
def State.arbiterDecide (s : State) : State :=
  if s.link.atBoundary then
    if s.link.responses.isEmpty then
      match s.offeredNotice with
      | some n => s.sendNotice n
      | none => s
    else s.sendResponse
  else s

/-! ### Taking a request (R174, R175) -/

/-- R174: whether the controller takes a request now: no RESTART waits, the response queue has
room, and the inbox head is of the command `i` (notes/assumptions/7.md). -/
def State.requestFor (s : State) (i : Instr) : Option Frame :=
  if s.link.restart = .idle ∧ s.link.responses.length < 4 then
    match s.link.inbox with
    | f :: _ => if requestOf f.kind = i then some f else none
    | [] => none
  else none

/-- The inbox head leaves the inbox. -/
def State.popInbox (s : State) : State := s.modLink fun l => { l with inbox := l.inbox.tail }

/-- R175: a response body placed at the response queue tail, under the tag and channel field of its
request. -/
def State.respond (s : State) (kind : Byte) (f : Frame) (body : List Byte) : State :=
  s.modLink fun l =>
    { l with responses :=
        l.responses ++ [{ kind := kind, tag := f.tag, channel := f.channel, body := body }] }

/-- What a request comes to: its result, the response fields, and the state it leaves. -/
structure Reply where
  state : State
  result : Result
  fields : List Byte

/-- A result with no fields. -/
def State.answer (s : State) (r : Result) : Reply := { state := s, result := r, fields := [] }

/-- OK with fields. -/
def State.answerOk (s : State) (fields : List Byte) : Reply :=
  { state := s, result := .ok, fields := fields }

/-- R175: a response body: the result code, then the fields. -/
def Reply.body (r : Reply) : List Byte := r.result.code :: r.fields

/-! ### The reply cache (R176) -/

/-- Whether an entry is the same request: tag, kind, channel and check value. -/
def CacheEntry.isOf (e : CacheEntry) (f : Frame) : Bool :=
  decide (e.tag = f.tag) && decide (e.kind = f.kind) && decide (e.channel = f.channel) &&
    decide (e.check = f.check)

/-- R176: the entry that recognises a retransmission of `f`. -/
def cacheHit (cache : List CacheEntry) (f : Frame) : Option CacheEntry :=
  cache.find? fun e => e.isOf f

/-- R176: the cache after `f` has been executed with `body`: the entry of its tag replaced and made
the newest, or a new newest entry, the oldest of eight removed first. -/
def cacheAfter (cache : List CacheEntry) (f : Frame) (body : List Byte) : List CacheEntry :=
  let entry : CacheEntry :=
    { tag := f.tag, kind := f.kind, channel := f.channel, check := f.check, body := body }
  let others := cache.filter fun e => decide (e.tag ≠ f.tag)
  (if others.length < 8 then others else others.drop 1) ++ [entry]

/-- R176: `f` is executed, and its response entered in the cache. -/
def State.executeCached (s : State) (f : Frame) (run : State → Reply) : State :=
  let r := run s
  let s := r.state.modLink fun l => { l with cache := cacheAfter l.cache f r.body }
  s.respond (f.kind + 0x80#8) f r.body

/-- R176: a mutating request: a retransmission is answered from the cache, any other is executed. -/
def State.executeMutating (s : State) (f : Frame) (run : State → Reply) : State :=
  match cacheHit s.link.cache f with
  | some e => s.respond (f.kind + 0x80#8) f e.body
  | none => s.executeCached f run

/-- A request that is not mutating (R176). -/
def State.executePlain (s : State) (f : Frame) (run : State → Reply) : State :=
  let r := run s
  r.state.respond (f.kind + 0x80#8) f r.body

/-- A refusal of the link checks: the result code alone, no state changed, nothing cached (R174). -/
def State.refuseRequest (s : State) (f : Frame) (r : Result) : State :=
  s.respond (f.kind + 0x80#8) f [r.code]

/-- R174, check 3: the channel that a channel kind's channel field names. -/
def channelOfField (b : Byte) : Option Channel :=
  if h : b.toNat < 8 then some ⟨b.toNat, h⟩ else none

/-- R174: a device request with body length `n`: checks 2 and 3, then `go`. -/
def State.deviceRequest (s : State) (f : Frame) (n : Nat) (go : State → State) : State :=
  if f.body.length ≠ n then s.refuseRequest f .badLength
  else if f.channel ≠ 0xFF#8 then s.refuseRequest f .badChannel
  else go s

/-- R174: a channel request with body length `n`: checks 2 and 3, then `go` on its channel. -/
def State.channelRequest (s : State) (f : Frame) (n : Nat) (go : Channel → State → State) : State :=
  if f.body.length ≠ n then s.refuseRequest f .badLength
  else
    match channelOfField f.channel with
    | none => s.refuseRequest f .badChannel
    | some c => go c s

/-- R174: the request command `i`: the inbox head is taken, if it is of that command, and handled
whole by `handle`. -/
def State.takeRequest (s : State) (i : Instr) (handle : Frame → State → State) :
    Host.Outcome State Fault Refusal :=
  s.whileRunning fun s =>
    match s.requestFor i with
    | some f => handle f s.popInbox
    | none => s

end Sys2Proof.Machine
end

