-- ==== Sys2Proof/Machine/Lease.lean ====
section
/-! DEFINITION. The lease manager (chapter 7). -/

namespace Sys2Proof.Machine

/-- R127: the id after `id`, from 65535 to 1. -/
def nextLeaseId (id : Nat) : Nat := if 65535 ≤ id then 1 else id + 1

/-- R129: how many further records of a queue a grant takes, `left` more being allowed and `bytes`
more bytes. It stops at the first that fails. -/
def takeCount : List Record → Nat → Nat → Nat
  | [], _, _ => 0
  | r :: rest, left, bytes =>
    if 0 < left ∧ r.bytes.length ≤ bytes then
      takeCount rest (left - 1) (bytes - r.bytes.length) + 1
    else 0

/-- R129: how many records a grant takes from a queue: the head whatever its length, then as
`takeCount` says; none after a head that is itself longer than the bytes asked for. -/
def grantCount (maxRecords maxBytes : Nat) : List Record → Nat
  | [] => 0
  | r :: rest =>
    if r.bytes.length ≤ maxBytes then
      takeCount rest (maxRecords - 1) (maxBytes - r.bytes.length) + 1
    else 1

/-- R129: the grant of the first `n` records of `c`'s queue. -/
def State.grantLease (s : State) (c : Channel) (n : Nat) : State :=
  let id := s.leaseCounter
  let expiry := s.expiryInMs (s.chan c).config.leaseTimeoutMs
  let s := s.modStore c fun st =>
    { st with
      lease := some { id := id, records := st.queue.take n, expiry := expiry }
      queue := st.queue.drop n }
  { s with leaseCounter := nextLeaseId id }

/-- R129: the fields of a TAKE's OK response. -/
def Lease.encode (l : Lease) : List Byte :=
  le 2 l.id ++ le 1 l.records.length ++ l.records.flatMap Record.encode

/-- R135: a record as a return leaves it: the redelivery count one more, stopping at 15. -/
def Record.returned (r : Record) : Record := { r with redelivery := satAdd 15 r.redelivery 1 }

/-- How a FETCH or RELEASE names a lease (R131). -/
inductive Naming
  | current (l : Lease)
  | stale
  | noLease
  deriving DecidableEq, Repr

/-- R131: the id compared with the channel's lease, then with its last expired id. -/
def ChannelStore.nameLease (st : ChannelStore) (id : Nat) : Naming :=
  match st.lease with
  | some l =>
    if l.id = id then .current l
    else if st.lastExpired = some id then .stale
    else .noLease
  | none => if st.lastExpired = some id then .stale else .noLease

/-- R133: the bytes that a FETCH of `length` from `offset` returns. -/
def fetchedBytes (r : Record) (offset length : Nat) : List Byte :=
  (r.bytes.drop offset).take length

/-- R132: the checks of a FETCH against the record it names. -/
def fetchValid (r : Record) (offset length : Nat) : Bool :=
  decide (1 ≤ length) && decide (length ≤ 1024) &&
    (decide (offset < r.bytes.length) || (decide (r.bytes.length = 0) && offset == 0))

/-- R130, R133: the lease timer of `c` restarted at the lease timeout configured now. -/
def State.renewLease (s : State) (c : Channel) : State :=
  let expiry := s.expiryInMs (s.chan c).config.leaseTimeoutMs
  s.modStore c fun st => { st with lease := st.lease.map fun l => { l with expiry := expiry } }

/-- R134, R135: lease `l` of `c` released: its first `n` records freed, the others returned to the
queue's head, the lease ended. -/
def State.releaseLease (s : State) (c : Channel) (l : Lease) (n : Nat) : State :=
  let s := s.modStore c fun st => { st with lease := none }
  let s := s.freeRecords c (l.records.take n)
  s.modStore c fun st => { st with queue := (l.records.drop n).map Record.returned ++ st.queue }

/-- R136: lease `l` of `c` expires: its records return to the queue's head, its id is the last
expired one, and EXPIRED is posted. -/
def State.expireLease (s : State) (c : Channel) (l : Lease) : State :=
  let s := s.modStore c fun st =>
    { st with
      queue := l.records.map Record.returned ++ st.queue
      lease := none
      lastExpired := some l.id }
  s.postChan c .expired (.expired l.id l.records.length)

end Sys2Proof.Machine
end

