-- ==== Sys2Proof/Machine/Requests.lean ====
section
/-! DEFINITION. The requests of the host: the meaning of each request row of the table. Each takes
the inbox head of its kind (R174), checks its length and channel, and carries it out. -/

namespace Sys2Proof.Machine

/-! ### Identity and time (R155, R156) -/

/-- HELLO. R155. -/
def execHello (s : State) : Host.Outcome State Fault Refusal :=
  s.takeRequest .hello fun f s =>
    s.deviceRequest f 0 fun s => s.executePlain f fun s => s.answerOk helloFields

/-- The fields of TIME: counter and wrap count read together (R156). -/
def TimeBase.encode (t : TimeBase) : List Byte := le 4 t.counter.toNat ++ le 2 t.wraps.toNat

/-- TIME. R156. -/
def execTime (s : State) : Host.Outcome State Fault Refusal :=
  s.takeRequest .time fun f s =>
    s.deviceRequest f 0 fun s => s.executePlain f fun s => s.answerOk s.time.encode

/-! ### The rate table (R4, R5) -/

/-- R4: the sixteen entries are checked, then the table is replaced whole. -/
def State.setRates (s : State) (rates : Vector Nat 16) : Reply :=
  if rates.toList.all rateEntryValid then { s with rates := rates }.answer .ok
  else s.answer .badValue

/-- SET_RATES. R4. -/
def execSetRates (s : State) : Host.Outcome State Fault Refusal :=
  s.takeRequest .setRates fun f s =>
    s.deviceRequest f 64 fun s => s.executeMutating f fun s => s.setRates (parseRates f.body)

/-- GET_RATES. R5. -/
def execGetRates (s : State) : Host.Outcome State Fault Refusal :=
  s.takeRequest .getRates fun f s =>
    s.deviceRequest f 0 fun s => s.executePlain f fun s => s.answerOk (encodeRates s.rates)

/-! ### The channel configuration (R157 to R160) -/

/-- R20: mode LISTEN taken in OFF. -/
def State.listenEntry (s : State) (c : Channel) : State :=
  s.modChan c fun k => k.freshQuiet s.rates s.now

/-- R21: mode OFF: the state's work undone, the capture cleared, OFF entered. A trial that this
abandons frees the unit, which takes the next head (R68). -/
def State.offEntry (s : State) (c : Channel) : State :=
  let freed := s.inService c
  let s := s.undoWork c
  let s := s.modChan c fun k =>
    { k with
      sampler := k.sampler.clearCapture
      ctl := { k.ctl.windowStopped with lock := .off } }
  s.takeHeadIf freed

/-- R158, step 3: whether the request changes what the fill state and HOLD are decided on. -/
def fillConcerned (old new : ChannelConfig) : Bool :=
  decide (old.segmentCap ≠ new.segmentCap) || decide (old.highMark ≠ new.highMark) ||
    decide (old.lowMark ≠ new.lowMark) || decide (old.holdEnable ≠ new.holdEnable) ||
    decide (old.holdPolarity ≠ new.holdPolarity) || decide (old.mode ≠ new.mode)

/-- R158: an accepted CONFIGURE: all fields written, the glitch limit applied, the mode transition
made, the fill state evaluated and HOLD set. -/
def State.configureChannel (s : State) (c : Channel) (new : ChannelConfig) : State :=
  let old := (s.chan c).config
  let s := s.modChan c fun k => { k with config := new }
  let s := s.judgePending c
  let s :=
    match old.mode, new.mode with
    | .off, .listen => s.listenEntry c
    | .listen, .off => s.offEntry c
    | .off, .off | .listen, .listen => s
  if fillConcerned old new then (s.evaluateFill c).setHold c else s

/-- R157, R158: CONFIGURE's execution. -/
def State.configure (s : State) (c : Channel) (body : List Byte) : Reply :=
  match parseConfig body with
  | some new => (s.configureChannel c new).answer .ok
  | none => s.answer .badValue

/-- CONFIGURE. R157, R158. -/
def execConfigure (s : State) : Host.Outcome State Fault Refusal :=
  s.takeRequest .configure fun f s =>
    s.channelRequest f 29 fun c s => s.executeMutating f fun s => s.configure c f.body

/-- GET_CONFIG. R160. -/
def execGetConfig (s : State) : Host.Outcome State Fault Refusal :=
  s.takeRequest .getConfig fun f s =>
    s.channelRequest f 0 fun c s => s.executePlain f fun s => s.answerOk (s.chan c).config.encode

/-! ### Profiles (R9 to R11) -/

/-- R10, R17: what an accepted SET_GIVEN does to the pending framing update, by lock state. -/
def State.updatePending (s : State) (c : Channel) : State :=
  match (s.chan c).ctl.lock with
  | .off | .failed => s
  | .quiet | .gather | .queued | .trial => s.modChan c fun k => { k with pendingUpdate := true }
  | .align => (s.modChan c Chan.applyUpdate).beginHunt c
  | .locked | .degraded =>
    match (s.chan c).openRecord? with
    | some _ => s.modChan c fun k => { k with pendingUpdate := true }
    | none => s.modChan c Chan.applyBetween

/-- R9, R10: SET_GIVEN's execution. -/
def State.setGiven (s : State) (c : Channel) (body : List Byte) : Reply :=
  match parseGiven body s.rates with
  | some g =>
    let s := s.modChan c fun k => { k with given := g }
    let s := s.updatePending c
    s.answerOk (le 1 (s.chan c).pendingUpdate.toNat)
  | none => s.answer .badValue

/-- SET_GIVEN. R9, R10. -/
def execSetGiven (s : State) : Host.Outcome State Fault Refusal :=
  s.takeRequest .setGiven fun f s =>
    s.channelRequest f 25 fun c s => s.executeMutating f fun s => s.setGiven c f.body

/-- GET_GIVEN. R11. -/
def execGetGiven (s : State) : Host.Outcome State Fault Refusal :=
  s.takeRequest .getGiven fun f s =>
    s.channelRequest f 0 fun c s => s.executePlain f fun s => s.answerOk (s.chan c).given.encode

/-! ### ACQUIRE (R23, R24) -/

/-- R24: an accepted ACQUIRE. A trial that it abandons frees the unit, which takes the next head
(R68). -/
def State.acquireChannel (s : State) (c : Channel) : State :=
  let freed := s.inService c
  let s := s.undoWork c
  let s := s.modChan c fun k =>
    { k with ctl := k.ctl.windowStopped }.freshQuiet s.rates s.now
  s.takeHeadIf freed

/-- R23: ACQUIRE's execution: BAD_STATE in OFF. -/
def State.acquire (s : State) (c : Channel) : Reply :=
  if (s.chan c).ctl.lock = .off then s.answer .badState
  else (s.acquireChannel c).answer .ok

/-- ACQUIRE. R23, R24. -/
def execAcquire (s : State) : Host.Outcome State Fault Refusal :=
  s.takeRequest .acquire fun f s =>
    s.channelRequest f 0 fun c s => s.executeMutating f fun s => s.acquire c

/-! ### Status, statistics, pools (R161 to R164) -/

/-- STATUS. R161. -/
def execStatus (s : State) : Host.Outcome State Fault Refusal :=
  s.takeRequest .status fun f s =>
    s.channelRequest f 0 fun c s =>
      s.executePlain f fun s => s.answerOk ((s.chan c).encodeStatus s.now)

/-- R163: the statistics read, and with `clear` set to 0 in the same moment. -/
def State.readStats (s : State) (c : Channel) (clear : Bool) : Reply :=
  let fields := (s.chan c).stats.encode
  (if clear then s.modStats c fun _ => resetStatistics else s).answerOk fields

/-- R163, R176: STATS with clear 1 is mutating; with clear 0 it is not; any other clear byte is
refused, and not cached. -/
def State.statsRequest (s : State) (f : Frame) (c : Channel) : State :=
  match flagOfCode (field f.body 0 1) with
  | some true => s.executeMutating f fun s => s.readStats c true
  | some false => s.executePlain f fun s => s.readStats c false
  | none => s.executePlain f fun s => s.answer .badValue

/-- STATS. R163. -/
def execStats (s : State) : Host.Outcome State Fault Refusal :=
  s.takeRequest .stats fun f s => s.channelRequest f 1 fun c s => s.statsRequest f c

/-- POOL. R164. -/
def execPool (s : State) : Host.Outcome State Fault Refusal :=
  s.takeRequest .pool fun f s =>
    s.deviceRequest f 0 fun s => s.executePlain f fun s => s.answerOk s.pools.encode

/-! ### Leases (R128 to R134) -/

/-- R128, R129: TAKE's execution: values, lease, queue, grant. -/
def State.takeRecords (s : State) (c : Channel) (maxRecords maxBytes : Nat) : Reply :=
  let st := (s.chan c).store
  if maxRecords < 1 ∨ 16 < maxRecords ∨ maxBytes < 1 ∨ 32768 < maxBytes then s.answer .badValue
  else if st.lease.isSome then s.answer .busy
  else if st.queue.isEmpty then s.answer .empty
  else
    let s := s.grantLease c (grantCount maxRecords maxBytes st.queue)
    match (s.chan c).store.lease with
    | some l => s.answerOk l.encode
    | none => s.answerOk []

/-- TAKE. R128, R129. -/
def execTake (s : State) : Host.Outcome State Fault Refusal :=
  s.takeRequest .take fun f s =>
    s.channelRequest f 3 fun c s =>
      s.executeMutating f fun s => s.takeRecords c (field f.body 0 1) (field f.body 1 2)

/-- R131 to R133: FETCH's execution. -/
def State.fetchBytes (s : State) (c : Channel) (id index offset length : Nat) : Reply :=
  match (s.chan c).store.nameLease id with
  | .stale => s.answer .stale
  | .noLease => s.answer .noLease
  | .current l =>
    match l.records[index]? with
    | none => s.answer .badValue
    | some r =>
      if fetchValid r offset length then
        let bytes := fetchedBytes r offset length
        (s.renewLease c).answerOk (le 2 bytes.length ++ bytes)
      else s.answer .badValue

/-- FETCH. R132, R133. -/
def execFetch (s : State) : Host.Outcome State Fault Refusal :=
  s.takeRequest .fetch fun f s =>
    s.channelRequest f 7 fun c s =>
      s.executePlain f fun s =>
        s.fetchBytes c (field f.body 0 2) (field f.body 2 1) (field f.body 3 2) (field f.body 5 2)

/-- R131, R134: RELEASE's execution. -/
def State.releaseRecords (s : State) (c : Channel) (id count : Nat) : Reply :=
  match (s.chan c).store.nameLease id with
  | .stale => s.answer .stale
  | .noLease => s.answer .noLease
  | .current l =>
    if l.records.length < count then s.answer .badValue
    else (s.releaseLease c l count).answerOk (le 1 count ++ le 1 (l.records.length - count))

/-- RELEASE. R134. -/
def execRelease (s : State) : Host.Outcome State Fault Refusal :=
  s.takeRequest .release fun f s =>
    s.channelRequest f 3 fun c s =>
      s.executeMutating f fun s => s.releaseRecords c (field f.body 0 2) (field f.body 2 1)

/-! ### CLOSE, PURGE, CREDIT (R103, R118, R148) -/

/-- R103: CLOSE's execution. -/
def State.closeOpen (s : State) (c : Channel) : Reply :=
  let r := s.closeRequested c
  r.1.answerOk (le 1 r.2.toNat)

/-- CLOSE. R103. -/
def execClose (s : State) : Host.Outcome State Fault Refusal :=
  s.takeRequest .close fun f s =>
    s.channelRequest f 0 fun c s => s.executeMutating f fun s => s.closeOpen c

/-- R118: every record of `c`'s queue is freed. -/
def State.purgeQueue (s : State) (c : Channel) : Reply :=
  let q := (s.chan c).store.queue
  let s := s.modStore c fun st => { st with queue := [] }
  (s.freeRecords c q).answerOk (le 2 q.length)

/-- PURGE. R118. -/
def execPurge (s : State) : Host.Outcome State Fault Refusal :=
  s.takeRequest .purge fun f s =>
    s.channelRequest f 0 fun c s => s.executeMutating f fun s => s.purgeQueue c

/-- R148: `n` added to the credit, stopping at 255. -/
def State.addCredit (s : State) (n : Nat) : Reply :=
  let credit := satAdd 255 s.notices.credit n
  { s with notices := { s.notices with credit := credit } }.answerOk (le 1 credit)

/-- CREDIT. R148. -/
def execCredit (s : State) : Host.Outcome State Fault Refusal :=
  s.takeRequest .credit fun f s =>
    s.deviceRequest f 1 fun s => s.executeMutating f fun s => s.addCredit (field f.body 0 1)

/-! ### RESET_CHANNEL (R165, R166) -/

/-- The segments a channel's records hold, as the reset returns them: its held segments (R110). The
descriptors: those of its open record, its queue and its lease (R125). -/
def Chan.heldDescriptors (k : Chan) : Nat :=
  k.framer.openDescriptors + k.store.queue.length +
    (match k.store.lease with
     | some l => l.records.length
     | none => 0)

/-- R166, steps 2 to 6 and 8: the channel's own state. What step 1 has stored in the trial report
is kept. -/
def Chan.reset (k : Chan) (rates : Vector Nat 16) (now : Nat) : Chan :=
  let copied := k.wholeCopy rates
  let sampler := k.sampler.stopped.clearCapture
  let lock : LockState :=
    match k.config.mode with
    | .listen => .quiet
    | .off => .off
  { copied with
    working := { copied.working with epoch := 0 }
    sampler :=
      match k.config.mode with
      | .listen => { sampler with quietReference := now }
      | .off => sampler
    framer := resetFramer
    store := resetChannelStore
    stats := resetStatistics
    ctl :=
      { k.ctl with
        lock := lock
        retryCount := 0
        windowChars := 0
        windowErrors := 0
        gatherTimer := none
        holdoverTimer := none
        dormantTimer := none } }

/-- R166: RESET_CHANNEL on channel `c`, as one action. -/
def State.resetChannel (s : State) (c : Channel) : State :=
  let freed := s.inService c
  let s := s.giveUpTrial c
  let k := s.chan c
  let s := { s with pools :=
    { s.pools with
      freeSegments := s.pools.freeSegments + k.store.held
      freeDescriptors := s.pools.freeDescriptors + k.heldDescriptors } }
  let s := s.modChan c fun k => k.reset s.rates s.now
  (s.withdraw c).takeHeadIf freed

/-- RESET_CHANNEL. R165, R166. -/
def execResetChannel (s : State) : Host.Outcome State Fault Refusal :=
  s.takeRequest .resetChannel fun f s =>
    s.channelRequest f 0 fun c s => s.executeMutating f fun s => (s.resetChannel c).answer .ok

/-! ### RESTART and the unlisted kinds (R168, R174, R178) -/

/-- R178: a RESTART taken: dispatch stops, and the frames behind it are discarded. -/
def State.stopDispatch (s : State) : State :=
  s.modLink fun l => { l with inbox := [], restart := .awaiting }

/-- RESTART. R168, R178. -/
def execRestart (s : State) : Host.Outcome State Fault Refusal :=
  s.takeRequest .restart fun f s =>
    s.deviceRequest f 0 fun s => s.executePlain f fun s => s.stopDispatch.answer .ok

/-- UNKNOWN_KIND: a kind not listed is answered so, with response kind FFh. R174, R175. -/
def execUnknownKind (s : State) : Host.Outcome State Fault Refusal :=
  s.takeRequest .unknownKind fun f s => s.respond 0xFF#8 f [Result.unknownKind.code]

end Sys2Proof.Machine
end

