-- ==== Sys2Proof/Machine/Events.lean ====
section
/-! DEFINITION. The events of the lines, the timers, the Trial Unit, the link and the resets: the
meaning of each row of the table that is no request. A row whose event cannot occur in a state (its
timer does not run, nothing is in service) changes nothing there (notes/assumptions/3.md). A row
that stands for an instant brings the Time Base to it (notes/assumptions/4.md). -/

namespace Sys2Proof.Machine

/-! ### The link (R172, R173, R177, R149) -/

/-- FRAME_RECEIVED. R173. -/
def execFrameReceived (s : State) : Host.Outcome State Fault Refusal :=
  s.whileRunning fun s => if s.link.receiver.complete then s.finishFrame else s

/-- LENGTH_DISCARD. R172. -/
def execLengthDiscard (s : State) : Host.Outcome State Fault Refusal :=
  s.whileRunning fun s => if s.link.receiver.overLong then s.discardLength else s

/-- RECEIVE_TIMEOUT. R172. -/
def execReceiveTimeout (s : State) : Host.Outcome State Fault Refusal :=
  s.whileRunning fun s =>
    let r := s.link.receiver
    if r.insideFrame then (s.advanceTo r.timeoutTick).discardTimeout else s

/-- RESPONSE_SEND: on an idle path a UART starts the frame. In the SPI selection the next byte that
the host clocks starts it (R177; DEDUCED, notes/assumptions/6.md). -/
def execResponseSend (s : State) : Host.Outcome State Fault Refusal :=
  s.whileRunning fun s => if s.link.startsAtOnce then s.sendResponse else s

/-- NOTICE_SEND: at a frame boundary with no response waiting. R149, R177. In the SPI selection the
next byte that the host clocks starts the frame (DEDUCED, notes/assumptions/6.md). Where a response
and a notice become ready together on an idle path, R177 lets either go first: here the response
does, and this row changes nothing while it waits (DESIGN CHOICE, notes/assumptions/28.md). -/
def execNoticeSend (s : State) : Host.Outcome State Fault Refusal :=
  s.whileRunning fun s =>
    if s.link.startsAtOnce && s.link.responses.isEmpty then
      match s.offeredNotice with
      | some n => s.sendNotice n
      | none => s
    else s

/-- R177, R178: the frame on the path has been sent whole. After the RESTART response, which is the
last in the queue, the soft restart is due; otherwise a UART's arbiter makes its next decision. In
the SPI selection that decision waits for the next byte the host clocks (DEDUCED,
notes/assumptions/6.md). -/
def State.frameEnded (s : State) : State :=
  let s := s.modLink fun l => { l with transmit := none }
  if s.link.restart = .awaiting ∧ s.link.responses.isEmpty then
    s.modLink fun l => { l with restart := .due }
  else if s.link.selection = .spi then s
  else s.arbiterDecide

/-- R171: an SPI frame that the host has clocked whole is over. It has stayed on the path from its
last byte to here, and ATTN has stayed active (DESIGN CHOICE, notes/assumptions/32.md). -/
def State.endClocked (s : State) : State :=
  match s.link.transmit with
  | some t => if t.frame.length ≤ t.clocked then s.frameEnded else s
  | none => s

/-- R171, R177: a byte on the link. In the SPI selection it counts only with SCS low: a frame whose
last byte has been clocked is over, the arbiter makes the decision that waited for this byte, and
the next byte of the frame being sent is shifted out with it. Where the receiver holds a frame that
is complete, over-long or timed out and that its own row has not finished, the manual gives no order
between that decision and the end of the frame: here the arbiter decides and the byte is shifted out
first, so that a LINK_ERROR or a merge into one which the end of the frame posts is not sent with
this byte (DESIGN CHOICE, notes/assumptions/31.md). -/
def State.linkByte (s : State) (b : Byte) (scsLow : Bool) : State :=
  if s.link.selection = .spi then
    if scsLow then (s.endClocked.arbiterDecide.modLink HostLink.shiftOut).receiveByte b else s
  else s.receiveByte b

/-- RECEIVED_BYTE. R171, R172. -/
def execReceivedByte (elapsed : Nat) (b : Byte) (scsLow : Bool) (s : State) :
    Host.Outcome State Fault Refusal :=
  s.whileRunning fun s => (s.advanceBy elapsed).linkByte b scsLow

/-- FRAME_SENT_WHOLE. R177. A UART's frame ends when its last bit has gone out; an SPI frame when the
host has clocked all of it. -/
def execFrameSentWhole (s : State) : Host.Outcome State Fault Refusal :=
  s.whileRunning fun s =>
    match s.link.transmit with
    | none => s
    | some t =>
      match s.link.selection.bitRate with
      | some rate => (s.advanceTo (t.sentTick rate)).frameEnded
      | none => s.endClocked

/-! ### Restarts and resets (R154, R169, R170) -/

/-- R169: RESET_CHANNEL on every channel, the Trial Unit free, the pools whole and the device
counters 0, the lease counter 1, the link queues and the receiver cleared, the notice table cleared
and STARTED posted. A trial in service is abandoned with its report. It is a step of its own
(DEDUCED, notes/assumptions/16.md). -/
def State.softRestart (s : State) : State :=
  let s :=
    match s.trial.service with
    | some t => s.abandonTrial t.channel
    | none => s
  { s with
    chans := mapChans (fun k => k.reset s.rates s.now) s.chans
    trial := resetTrialUnit
    pools := resetPools
    leaseCounter := 1
    link :=
      { s.link with
        receiver := s.link.receiver.rest
        inbox := []
        responses := []
        cache := []
        restart := .idle } }.startedPost .soft

/-- SOFT_RESTART. R169, R178. -/
def execSoftRestart (s : State) : Host.Outcome State Fault Refusal :=
  s.whileRunning fun s => if s.link.restart = .due then s.softRestart else s

/-- R154: the reason STARTED gives for a hardware reset. -/
def startReasonOf : ResetCause → StartReason
  | .power => .power
  | .pin => .pin

/-- R170: every state at its hardware reset value, RESET asserted, STARTED posted (R154). The line
inputs and the straps are the outside's; the commands waiting stay (DEDUCED,
notes/assumptions/15.md). -/
def State.hardwareReset (s : State) (cause : ResetCause) : State :=
  let fresh : State :=
    { resetAsserted := true
      resetCause := cause
      lineIn := s.lineIn
      time := resetTime
      rates := resetRates
      chans := resetChans s.lineIn
      trial := resetTrialUnit
      pools := resetPools
      leaseCounter := 1
      notices := resetNotices
      link := resetLink s.link.selection
      pending := s.pending }
  fresh.startedPost (startReasonOf cause)

/-- HARDWARE_RESET. R170. -/
def execHardwareReset (cause : ResetCause) (s : State) : Host.Outcome State Fault Refusal :=
  .next (s.hardwareReset cause)

/-- R171: the selection the straps give, LSEL1 first. -/
def selectionOf (lsel1 lsel0 : Bool) : LinkSelection :=
  match lsel1, lsel0 with
  | false, false => .uart115200
  | false, true => .uart921600
  | true, false => .uart3000000
  | true, true => .spi

/-- R71, R154, R170: RESET deasserted: the straps are sampled, each filter takes the level its input
stands at, and STARTED is pending. -/
def State.deassertReset (s : State) (lsel1 lsel0 : Bool) : State :=
  { s with
    resetAsserted := false
    chans := resetChans s.lineIn
    link := { s.link with selection := selectionOf lsel1 lsel0 } }.startedPost
      (startReasonOf s.resetCause)

/-- RESET_DEASSERTED. R170. -/
def execResetDeasserted (lsel1 lsel0 : Bool) (s : State) : Host.Outcome State Fault Refusal :=
  .next (if s.resetAsserted then s.deassertReset lsel1 lsel0 else s)

/-! ### Time and the line inputs (R70, R72, R74) -/

/-- R70: the tick at which the counter next passes from its greatest value to 0. -/
def TimeBase.wrapTick (t : TimeBase) : Nat :=
  (t.ticks / ticksPerMicrosecond + (4294967296 - t.counter.toNat)) * ticksPerMicrosecond

/-- TIME_WRAP. R70. -/
def execTimeWrap (s : State) : Host.Outcome State Fault Refusal :=
  s.whileRunning fun s => s.advanceTo s.time.wrapTick

/-- R72: the glitch filter of `c` sees its input at `level` in this tick. Against a pending change,
the input is back at the accepted level: the change is dropped. It looks once for each change of the
input, several of them within one tick included (DESIGN CHOICE, notes/assumptions/30.md). -/
def State.filterSees (s : State) (c : Channel) (level : Level) : State :=
  s.modSampler c fun p =>
    { p with pendingChange := if level = p.accepted then none else some s.now }

/-- R72: time passes to `tick`, within which a change already pending may persist for the glitch
limit: it is then accepted at that tick (DEDUCED, notes/assumptions/9.md). -/
def State.passTo (s : State) (c : Channel) (tick : Nat) : State :=
  match (s.chan c).sampler.pendingChange with
  | none => s.advanceTo tick
  | some d =>
    let moment := d + (s.chan c).config.glitchLimit
    if moment ≤ tick then ((s.advanceTo moment).deliverEdge c d).advanceTo tick
    else s.advanceTo tick

/-- The raw input of `c` changes level. -/
def State.toggleLine (s : State) (c : Channel) : State :=
  { s with lineIn := s.lineIn.set c.val (s.lineIn[c.val]).other }

/-- LINE_INPUT_CHANGE. R72. While RESET is asserted the pin moves and nothing else does. R72 has the
filter act once a tick and does not say what a second change of the line within one tick (`elapsed`
0) does: here each is a change of its own, dated at this tick (DESIGN CHOICE,
notes/assumptions/30.md). -/
def execLineInputChange (c : Channel) (elapsed : Nat) (s : State) :
    Host.Outcome State Fault Refusal :=
  .next
    (if s.running then
      let s := (s.passTo c (s.now + elapsed)).toggleLine c
      s.filterSees c s.lineIn[c.val]
    else s.toggleLine c)

/-- FILTERED_EDGE: the change that is pending has persisted for the glitch limit. R72, R74. -/
def execFilteredEdge (c : Channel) (s : State) : Host.Outcome State Fault Refusal :=
  s.whileRunning fun s =>
    match (s.chan c).sampler.pendingChange with
    | some d => (s.advanceTo (d + (s.chan c).config.glitchLimit)).deliverEdge c d
    | none => s

/-! ### Gathering and trials (R27, R51, R55, R65, R66) -/

/-- R27: the least number of edges worth a trial. -/
def leastEdges : Nat := 32

/-- R27: the gather-quiet timer expires. -/
def State.gatherExpired (s : State) (c : Channel) : State :=
  if leastEdges ≤ (s.chan c).sampler.ring.length then s.joinQueue c
  else s.modCtl c fun d => { d with gatherTimer := none }

/-- GATHER_QUIET_EXPIRY. R27. -/
def execGatherQuietExpiry (c : Channel) (s : State) : Host.Outcome State Fault Refusal :=
  s.whileRunning fun s =>
    match (s.chan c).ctl.lock, (s.chan c).ctl.gatherTimer with
    | .gather, some t => (s.advanceTo t).gatherExpired c
    | _, _ => s

/-- TRIAL_START. R49, R51. -/
def execTrialStart (s : State) : Host.Outcome State Fault Refusal :=
  s.whileRunning fun s => s.takeHead

/-- The trial in service replaced. -/
def State.setTrial (s : State) (t : Trial) : State :=
  { s with trial := { s.trial with service := some t } }

/-- RATE_ESTIMATE. R53, R55, R60. -/
def execRateEstimate (s : State) : Host.Outcome State Fault Refusal :=
  s.whileRunning fun s =>
    match s.trial.service with
    | some t =>
      if t.candidates.isNone && t.verdict.isNone then s.setTrial t.estimated else s
    | none => s

/-- CANDIDATE_EVALUATED. R64, R65. -/
def execCandidateEvaluated (s : State) : Host.Outcome State Fault Refusal :=
  s.whileRunning fun s =>
    match s.trial.service with
    | some t =>
      match t.candidates, t.verdict with
      | some list, none =>
        match list[t.position]? with
        | some x => s.setTrial (t.evaluated x list.length)
        | none => s
      | _, _ => s
    | none => s

/-- TRIAL_COMPLETE. R29, R30, R66. -/
def execTrialComplete (s : State) : Host.Outcome State Fault Refusal :=
  s.whileRunning fun s =>
    match s.trial.service with
    | some t =>
      match t.verdict with
      | some v => s.handBack t v
      | none => s
    | none => s

/-! ### Character recovery (R78 to R82) -/

/-- R72: every change of the line dated at or before tick `at_` has passed the glitch filter, once
the present pending change is not one of them. -/
def Sampler.settledAt (p : Sampler) (at_ : Nat) : Bool :=
  match p.pendingChange with
  | some d => decide (at_ < d)
  | none => true

/-- R79: the start edge `t` is false: its half-bit sample reads mark. -/
def Chan.startIsFalse (k : Chan) (t per : Nat) : Bool :=
  readsMark k.working.line.polarity k.sampler.edges (startSample t per)

/-- R79: a false start: counted, and the sampler hunts for the next start edge dated after it. A gap
expiry that was held on it is taken then (R92). -/
def State.falseStart (s : State) (c : Channel) (t : Nat) : State :=
  let s := s.modChan c fun k =>
    { k with
      stats := { k.stats with falseStarts := count32 k.stats.falseStarts 1 }
      sampler := { k.sampler with decode := .hunt t } }.settleSampler
  s.takeHeldGap c

/-- The tick at which a sample at `at_` is read: the glitch limit later (R72). -/
def Chan.readingTick (k : Chan) (at_ : Nat) : Nat := at_ + k.config.glitchLimit

/-- FALSE_START. R79. -/
def execFalseStart (c : Channel) (s : State) : Host.Outcome State Fault Refusal :=
  s.whileRunning fun s =>
    let k := s.chan c
    match k.sampler.decode with
    | .sampling t per =>
      if k.sampler.settledAt (startSample t per) && k.startIsFalse t per then
        (s.advanceTo (k.readingTick (startSample t per))).falseStart c t
      else s
    | .stopped | .hunt _ | .spaceHeld _ _ | .waitMark _ => s

/-- R81: the line has had no edge since the start edge up to tick `at_`. -/
def Sampler.noEdgeBy (p : Sampler) (at_ : Nat) : Bool := p.edges.all fun e => decide (at_ < e.tick)

/-- R78, R81: the sampler waits to tell a break from a character. -/
def State.holdSpace (s : State) (c : Channel) (t per : Nat) : State :=
  s.modSampler c fun p => { p with decode := .spaceHeld t per }

/-- The tick of the first edge since the start edge. -/
def Sampler.firstEdge (p : Sampler) : Option Nat := p.edges.head?.map Edge.tick

/-- CHARACTER_EVENT. R80 to R82. In SAMPLING the character is decided at its last stop-bit sample,
unless the line has been at space throughout: the sampler then enters SPACE_HELD, and the character
is decided by the edge to mark that comes before the break instant. A gap that expired before the
start edge is taken first (R92). -/
def execCharacterEvent (c : Channel) (s : State) : Host.Outcome State Fault Refusal :=
  s.whileRunning fun s =>
    let k := s.chan c
    let cb := k.working.line.format.charBits
    match k.sampler.decode with
    | .sampling t per =>
      let last := lastSample t per cb
      if k.sampler.settledAt last && !k.startIsFalse t per then
        let s := s.advanceTo (k.readingTick last)
        if k.sampler.noEdgeBy last then s.holdSpace c t per
        else (s.takeHeldGap c).characterEvent c t per last
      else s
    | .spaceHeld t per =>
      match k.sampler.firstEdge with
      | some e =>
        if (breakInstant t per cb).after e then (s.takeHeldGap c).characterEvent c t per e else s
      | none => s
    | .stopped | .hunt _ | .waitMark _ => s

/-- R81, R82, R98: the break event of start edge `t`, recognised at `x`. Its return to mark
is an edge at or after that instant. -/
def State.breakEvent (s : State) (c : Channel) (x : Instant) : State :=
  let s := s.modChan c fun k =>
    { k with
      stats := { k.stats with breaks := count32 k.stats.breaks 1 }
      sampler := { k.sampler with decode := .waitMark x.ceil } }
  (s.frameBreak c x).modChan c Chan.settleSampler

/-- R81: the run of space from start edge `t` reaches the break instant with no edge before it. A
gap that expired before the start edge is taken first (R92). -/
def State.breakFrom (s : State) (c : Channel) (t per : Nat) : State :=
  let k := s.chan c
  let x := breakInstant t per k.working.line.format.charBits
  if k.sampler.noEdgeBy (x.ceil - 1) && k.sampler.settledAt (x.ceil - 1) then
    ((s.advanceTo (k.readingTick x.ceil)).takeHeldGap c).breakEvent c x
  else s

/-- BREAK_EVENT. R81. -/
def execBreakEvent (c : Channel) (s : State) : Host.Outcome State Fault Refusal :=
  s.whileRunning fun s =>
    match (s.chan c).sampler.decode with
    | .sampling t per | .spaceHeld t per => s.breakFrom c t per
    | .stopped | .hunt _ | .waitMark _ => s

/-! ### Expiries (R43, R44, R92, R136) -/

/-- GAP_EXPIRY. R92. -/
def execGapExpiry (c : Channel) (s : State) : Host.Outcome State Fault Refusal :=
  s.whileRunning fun s =>
    let k := s.chan c
    match k.gapReady with
    | some x => (s.advanceTo (k.gapMoment x)).takeGap c x
    | none => s

/-- HOLDOVER_EXPIRY. R43. -/
def execHoldoverExpiry (c : Channel) (s : State) : Host.Outcome State Fault Refusal :=
  s.whileRunning fun s =>
    match (s.chan c).ctl.lock, (s.chan c).ctl.holdoverTimer with
    | .degraded, some t => (s.advanceTo t).releaseChannel c .lockLoss .holdover
    | _, _ => s

/-- DORMANT_EXPIRY. R44. -/
def execDormantExpiry (c : Channel) (s : State) : Host.Outcome State Fault Refusal :=
  s.whileRunning fun s =>
    match (s.chan c).ctl.lock.decoding, (s.chan c).ctl.dormantTimer with
    | true, some t => (s.advanceTo t).releaseChannel c .dormant .dormant
    | _, _ => s

/-- LEASE_EXPIRY. R136. -/
def execLeaseExpiry (c : Channel) (s : State) : Host.Outcome State Fault Refusal :=
  s.whileRunning fun s =>
    match (s.chan c).store.lease with
    | some l => (s.advanceTo l.expiry).expireLease c l
    | none => s

end Sys2Proof.Machine
end

