-- ==== Sys2Proof/Machine/Dispatch.lean ====
section
/-! DEFINITION. The meaning of every command, one arm each. -/

namespace Sys2Proof.Machine

def exec (i : Instr) (s : State) : Host.Outcome State Fault Refusal :=
  match i with
  | .hello => Sys2Proof.Machine.execHello s
  | .time => Sys2Proof.Machine.execTime s
  | .setRates => Sys2Proof.Machine.execSetRates s
  | .getRates => Sys2Proof.Machine.execGetRates s
  | .configure => Sys2Proof.Machine.execConfigure s
  | .getConfig => Sys2Proof.Machine.execGetConfig s
  | .setGiven => Sys2Proof.Machine.execSetGiven s
  | .getGiven => Sys2Proof.Machine.execGetGiven s
  | .acquire => Sys2Proof.Machine.execAcquire s
  | .status => Sys2Proof.Machine.execStatus s
  | .stats => Sys2Proof.Machine.execStats s
  | .pool => Sys2Proof.Machine.execPool s
  | .take => Sys2Proof.Machine.execTake s
  | .fetch => Sys2Proof.Machine.execFetch s
  | .release => Sys2Proof.Machine.execRelease s
  | .close => Sys2Proof.Machine.execClose s
  | .purge => Sys2Proof.Machine.execPurge s
  | .credit => Sys2Proof.Machine.execCredit s
  | .resetChannel => Sys2Proof.Machine.execResetChannel s
  | .restart => Sys2Proof.Machine.execRestart s
  | .unknownKind => Sys2Proof.Machine.execUnknownKind s
  | .frameReceived => Sys2Proof.Machine.execFrameReceived s
  | .lengthDiscard => Sys2Proof.Machine.execLengthDiscard s
  | .receiveTimeout => Sys2Proof.Machine.execReceiveTimeout s
  | .responseSend => Sys2Proof.Machine.execResponseSend s
  | .noticeSend => Sys2Proof.Machine.execNoticeSend s
  | .softRestart => Sys2Proof.Machine.execSoftRestart s
  | .hardwareReset cause => Sys2Proof.Machine.execHardwareReset cause s
  | .timeWrap => Sys2Proof.Machine.execTimeWrap s
  | .lineInputChange c elapsed => Sys2Proof.Machine.execLineInputChange c elapsed s
  | .filteredEdge c => Sys2Proof.Machine.execFilteredEdge c s
  | .gatherQuietExpiry c => Sys2Proof.Machine.execGatherQuietExpiry c s
  | .trialStart => Sys2Proof.Machine.execTrialStart s
  | .rateEstimate => Sys2Proof.Machine.execRateEstimate s
  | .candidateEvaluated => Sys2Proof.Machine.execCandidateEvaluated s
  | .trialComplete => Sys2Proof.Machine.execTrialComplete s
  | .falseStart c => Sys2Proof.Machine.execFalseStart c s
  | .characterEvent c => Sys2Proof.Machine.execCharacterEvent c s
  | .breakEvent c => Sys2Proof.Machine.execBreakEvent c s
  | .gapExpiry c => Sys2Proof.Machine.execGapExpiry c s
  | .holdoverExpiry c => Sys2Proof.Machine.execHoldoverExpiry c s
  | .dormantExpiry c => Sys2Proof.Machine.execDormantExpiry c s
  | .leaseExpiry c => Sys2Proof.Machine.execLeaseExpiry c s
  | .receivedByte elapsed b scsLow => Sys2Proof.Machine.execReceivedByte elapsed b scsLow s
  | .frameSentWhole => Sys2Proof.Machine.execFrameSentWhole s
  | .resetDeasserted lsel1 lsel0 => Sys2Proof.Machine.execResetDeasserted lsel1 lsel0 s

end Sys2Proof.Machine
end

