-- ==== Sys2Proof/Machine/Step.lean ====
section
/-! DEFINITION. One step of the device: the command at the front of its queue, or, with none
waiting, one tick of the sampler clock. -/

namespace Sys2Proof.Machine

/-- With no command waiting one tick of the sampler clock passes (R70), and nothing else happens: a
filter, a timer or a sample acts through its own row. The clock stands still while RESET is
asserted (notes/assumptions/1.md). -/
def State.tick (s : State) : State := if s.running then s.advanceBy 1 else s

/-- One step. -/
def step (s : State) : Host.Outcome State Fault Refusal :=
  match s.pending with
  | i :: rest => exec i { s with pending := rest }
  | [] => .next s.tick

/-- `s` with the command that a word spells at the front of its queue. No word spells one. -/
def State.withFetchWord (s : State) (nbits w : Nat) : State :=
  match decodeTableWord nbits w with
  | some i => { s with pending := i :: s.pending }
  | none => s

end Sys2Proof.Machine
end

