-- ==== Sys2Proof/Safety.lean ====
section
/-! DEFINITION. What counts as a safe state, in the terms the statements use: the laws the manual
states of the device as a whole, and the words in which a statement says that a request is taken and
answered. -/

namespace Sys2Proof.Machine

/-! ### RESET asserted (R170) -/

/-- R170: while RESET is asserted every block stands at its hardware reset value, STARTED pending
with the reason of the reset (notes/assumptions/15.md). Each filter stands at a level of its line,
which may have moved since. -/
def State.ResetLaw (s : State) : Prop :=
  s.resetAsserted = true →
    s.time = resetTime ∧ s.rates = resetRates ∧ (∃ lines, s.chans = resetChans lines) ∧
    s.trial = resetTrialUnit ∧ s.pools = resetPools ∧ s.leaseCounter = 1 ∧
    s.notices = { resetNotices with pending := [startedNotice (startReasonOf s.resetCause)] } ∧
    s.link = resetLink s.link.selection

/-! ### The Time Base (R70) -/

/-- R70: the counter and the wrap count are the whole microseconds since RESET was deasserted, 48
ticks to each. -/
structure State.TimeLaw (s : State) : Prop where
  counter : s.time.counter = BitVec.ofNat 32 (s.time.ticks / 48)
  wraps : s.time.wraps = BitVec.ofNat 16 (s.time.ticks / 48 / 4294967296)

/-! ### Lock states and the blocks that follow them (R18, R48, R78, R88) -/

/-- R88: the framer state that goes with a lock state. -/
def FramerState.follows (f : FramerState) (l : LockState) : Bool :=
  match f with
  | .idle => !l.decoding
  | .aligning => decide (l = .align)
  | .between | .inRecord _ => decide (l = .locked) || decide (l = .degraded)

/-- R18, R42, R44, R78, R91: what the blocks of one channel may hold in its lock state. -/
structure Chan.LockLaw (k : Chan) : Prop where
  mode : k.ctl.lock = .off ↔ k.config.mode = .off
  framer : k.framer.state.follows k.ctl.lock = true
  gapTimer : k.framer.gapTimer.isSome = true → k.framer.state ≠ .idle
  sampler : k.sampler.decode = .stopped ↔ k.ctl.lock.decoding = false
  confirmed : k.ctl.lock.decoding = true → k.working.confirmed = true
  gatherTimer : k.ctl.gatherTimer.isSome = true → k.ctl.lock = .gather
  holdoverTimer : k.ctl.holdoverTimer.isSome = true ↔ k.ctl.lock = .degraded
  dormantTimer : k.ctl.dormantTimer.isSome = true → k.ctl.lock.decoding = true

/-- R18, R48: every channel obeys its lock state; a channel is in the trial queue exactly while it
is QUEUED, once, and in service exactly while it is TRIAL. -/
structure State.LockLaw (s : State) : Prop where
  channels : ∀ c, (s.chan c).LockLaw
  once : s.trial.queue.Nodup
  queued : ∀ c, c ∈ s.trial.queue ↔ (s.chan c).ctl.lock = .queued
  served : ∀ c, s.inService c = true ↔ (s.chan c).ctl.lock = .trial

/-! ### The pools (R108, R109, R110) -/

/-- The records of a channel's lease. -/
def ChannelStore.leased (st : ChannelStore) : List Record :=
  match st.lease with
  | some l => l.records
  | none => []

/-- R110: the segments held by a channel's open, queued and leased records. -/
def Chan.segmentsHeld (k : Chan) : Nat :=
  k.framer.openSegments + segmentSum k.store.queue + segmentSum k.store.leased

/-- R109: the descriptors in a channel's open record, queue and lease. -/
def Chan.descriptorsHeld (k : Chan) : Nat :=
  k.framer.openDescriptors + k.store.queue.length + k.store.leased.length

/-- R113: a dropped record holds no byte. -/
def Chan.droppedIsEmpty (k : Chan) : Prop :=
  ∀ r, k.openRecord? = some r → r.hasDescriptor = false → r.bytes = []

/-- A number summed over the eight channels. -/
def State.sumChans (s : State) (f : Chan → Nat) : Nat :=
  f (s.chan 0) + f (s.chan 1) + f (s.chan 2) + f (s.chan 3) + f (s.chan 4) + f (s.chan 5) +
    f (s.chan 6) + f (s.chan 7)

/-- R108, R109, R110: the held segments of each channel are those of its records, and the free and
the held segments total 512, the free and the held descriptors 256. -/
structure State.PoolLaw (s : State) : Prop where
  held : ∀ c, (s.chan c).store.held = (s.chan c).segmentsHeld
  dropped : ∀ c, (s.chan c).droppedIsEmpty
  segments : s.pools.freeSegments + s.sumChans (fun k => k.store.held) = 512
  descriptors : s.pools.freeDescriptors + s.sumChans Chan.descriptorsHeld = 256

/-! ### Fill state and HOLD (R120, R122) -/

/-- R120, R122, R157: a legal configuration, a fill state the marks allow, and a HOLD output that
follows enable, mode and fill state. -/
structure Chan.FillLaw (k : Chan) : Prop where
  config : k.config.valid = true
  high : k.store.fill = .high → k.config.lowMark < k.store.held
  low : k.store.fill = .low → k.store.held < k.config.highMark
  hold : k.store.hold = k.holdDue

/-- R120, R122, R157 on every channel. -/
def State.FillLaw (s : State) : Prop := ∀ c, (s.chan c).FillLaw

/-! ### Notices (R142, R143, R147) -/

/-- R144: the kind values that belong in a slot. -/
def Slot.carries (slot : Slot) (v : NoticeValues) : Bool :=
  match slot, v with
  | .device .started, .started _ _ => true
  | .device .linkError, .linkError _ _ _ _ => true
  | .device .pool, .pool _ => true
  | .chan _ .locked, .locked _ _ _ _ => true
  | .chan _ .degraded, .degraded _ _ _ => true
  | .chan _ .released, .released _ => true
  | .chan _ .failed, .failed _ _ => true
  | .chan _ .profile, .profile _ _ => true
  | .chan _ .ready, .ready => true
  | .chan _ .fill, .fill _ => true
  | .chan _ .expired, .expired _ _ => true
  | .chan _ .dropped, .dropped _ => true
  | _, _ => false

/-- R142, R143, R147: each slot holds at most one pending notice, with a count of 1..255 and the
values of its kind; the credit is at most 255. -/
structure State.NoticeLaw (s : State) : Prop where
  once : (s.notices.pending.map Notice.slot).Nodup
  counts : ∀ n ∈ s.notices.pending, 1 ≤ n.count ∧ n.count ≤ 255
  kinds : ∀ n ∈ s.notices.pending, n.slot.carries n.values = true
  credit : s.notices.credit ≤ 255

/-! ### The link queues (R174, R175, R176) -/

/-- R174, R175, R176: the inbox and the response queue hold at most 4, the reply cache at most 8
entries, each with a distinct tag. -/
structure State.LinkLaw (s : State) : Prop where
  inbox : s.link.inbox.length ≤ 4
  responses : s.link.responses.length ≤ 4
  cache : s.link.cache.length ≤ 8
  tags : (s.link.cache.map CacheEntry.tag).Nodup

/-! ### Leases (R126, R127) -/

/-- R126: a lease holds 1 to 16 records under an id of 1..65535. -/
structure Lease.Law (l : Lease) : Prop where
  id : 1 ≤ l.id ∧ l.id ≤ 65535
  records : 1 ≤ l.records.length ∧ l.records.length ≤ 16

/-- R126, R127: every lease is legal, and the counter gives the ids 1..65535. -/
structure State.LeaseLaw (s : State) : Prop where
  leases : ∀ c l, (s.chan c).store.lease = some l → l.Law
  counter : 1 ≤ s.leaseCounter ∧ s.leaseCounter ≤ 65535

/-! ### Profiles and rates (R1, R2, R3, R9, R12, R56) -/

/-- R1, R2, R9, R12: the given profile is legal, and so are the line fields, the nominal rate (0 or
300..3,000,000) and the framing fields of the working profile. -/
structure Chan.ProfileLaw (k : Chan) : Prop where
  given : k.given.valid = true
  line : k.working.line.valid = true
  nominal : rateEntryValid k.working.nominal = true
  framing : k.working.framing.valid = true

/-- R56: a candidate of legal line fields and a nominal rate of R12. -/
def Candidate.Legal (x : Candidate) : Prop :=
  x.line.valid = true ∧ rateEntryValid x.nominal = true

/-- R51, R56: what the trial in service may have copied, listed and chosen. -/
structure Trial.ProfileLaw (t : Trial) : Prop where
  given : t.snapshot.given.valid = true
  rates : ∀ r ∈ t.snapshot.rates.toList, rateEntryValid r = true
  verifyFirst : ∀ x, t.snapshot.verifyFirst = some x → x.Legal
  candidates : ∀ list, t.candidates = some list → ∀ x ∈ list, x.Legal
  chosen : ∀ v x, t.verdict = some v → v.chosen = some x → x.Legal

/-- R1, R2, R3, R9, R12: every rate entry is 0 or 300..3,000,000, and every profile is legal, as are
the candidates from which a working profile may be written. -/
structure State.ProfileLaw (s : State) : Prop where
  rates : ∀ r ∈ s.rates.toList, rateEntryValid r = true
  profiles : ∀ c, (s.chan c).ProfileLaw
  trial : ∀ t, s.trial.service = some t → t.ProfileLaw

/-! ### The bit clock (R77) -/

/-- R77: the period `p`, in 1/256 tick, lies between 0.875 and 1.125 times the nominal one. A
nominal rate of 0 and a period of 0 are shut out. -/
def periodInRange (nominal p : Nat) : Prop :=
  7 * (256 * 48000000) ≤ 8 * nominal * p ∧ 8 * nominal * p ≤ 9 * (256 * 48000000)

/-- R14, R77: a confirmed profile has a nominal rate, and the tracked period of a decoding channel
and the period of its character in hand are in range. -/
structure Chan.PeriodLaw (k : Chan) : Prop where
  rate : k.working.confirmed = true → k.working.nominal ≠ 0
  tracked : k.ctl.lock.decoding = true → periodInRange k.working.nominal k.sampler.trackedPeriod
  character : ∀ t per, k.sampler.decode = .sampling t per ∨ k.sampler.decode = .spaceHeld t per →
    periodInRange k.working.nominal per

/-- R51, R57: no candidate of the trial in service, listed or chosen, has the rate 0. -/
structure Trial.PeriodLaw (t : Trial) : Prop where
  verifyFirst : ∀ x, t.snapshot.verifyFirst = some x → x.nominal ≠ 0
  candidates : ∀ list, t.candidates = some list → ∀ x ∈ list, x.nominal ≠ 0
  chosen : ∀ v x, t.verdict = some v → v.chosen = some x → x.nominal ≠ 0

/-- R14, R51, R57, R77: every bit clock runs in its range, and no profile or candidate that could
set one has the rate 0. -/
structure State.PeriodLaw (s : State) : Prop where
  channels : ∀ c, (s.chan c).PeriodLaw
  trial : ∀ t, s.trial.service = some t → t.PeriodLaw

/-! ### Layouts of section 10.7 (R179 to R181) -/

/-- R180: the line fields at offset `o` of a body. -/
structure LineFields.At (l : LineFields) (b : List Byte) (o : Nat) : Prop where
  rate : field b o 1 = l.rate.val
  dataBits : field b (o + 1) 1 = l.format.dataBits % 256
  parity : field b (o + 2) 1 = l.format.parity.code
  stopBits : field b (o + 3) 1 = l.format.stopBits % 256
  polarity : field b (o + 4) 1 = l.polarity.code

/-- R180: the framing fields at offset `o` of a body. -/
structure FramingFields.At (f : FramingFields) (b : List Byte) (o : Nat) : Prop where
  mode : field b o 1 = f.mode.code
  gapLimit : field b (o + 1) 1 = f.gapLimit % 256
  count : field b (o + 2) 1 = f.delimiters.length % 256
  delimiters : fieldBytes b (o + 3) 4 = (f.delimiters ++ List.replicate 4 0#8).take 4
  kept : field b (o + 7) 1 = if f.delimiterKept then 1 else 0
  present : field b (o + 8) 1 = if f.startChar = none then 0 else 1
  startChar : fieldBytes b (o + 9) 1 = [f.startChar.getD 0#8]
  recordLength : field b (o + 10) 2 = f.recordLength % 65536
  maxRecordLength : field b (o + 12) 2 = f.maxRecordLength % 65536

/-- R181: the descriptor of a record, 26 bytes. -/
structure Record.Described (r : Record) (b : List Byte) : Prop where
  length : b.length = 26
  seq : field b 0 4 = r.seq.toNat
  startTime : field b 4 4 = r.startTime.toNat
  endTime : field b 8 4 = r.endTime.toNat
  stored : field b 12 2 = r.bytes.length % 65536
  lost : field b 14 2 = r.lost % 65536
  cause : field b 16 1 = r.cause.code
  flags : field b 17 1 =
    (if r.truncated then 1 else 0) + (if r.suspect then 2 else 0) +
      (if r.firstError = none then 0 else 4) + (if r.preamble = none then 0 else 8)
  parityErrors : field b 18 1 = r.parityErrors % 256
  framingErrors : field b 19 1 = r.framingErrors % 256
  firstError : field b 20 2 = r.firstError.getD 0 % 65536
  preamble : field b 22 2 = r.preamble.getD 0 % 65536
  epoch : field b 24 1 = r.epoch.toNat
  redelivery : field b 25 1 = r.redelivery % 256

/-- R162: the fifteen statistics in the order in which STATS returns them. -/
def Statistics.inOrder (x : Statistics) : List Nat :=
  [x.recordsClosed, x.recordsDropped, x.bytesStored, x.bytesLost, x.parityErrors, x.framingErrors,
    x.breaks, x.falseStarts, x.fits, x.failedTrials, x.abandonedTrials, x.degradedEntries,
    x.releases, x.discardedBeforeAlignment, x.preambleBytes]

/-- R144, R181: the kind values `v` of a notice in the slot of channel `c` with these values, sent
in `s`. Those of DROPPED, FILL and READY are read from the channel's store at the send. -/
def State.ChannelKindValues (s : State) (c : Channel) (values : NoticeValues) (v : List Byte) :
    Prop :=
  let st := (s.chan c).store
  match values with
  | .locked epoch nominal format regained =>
    v = [epoch] ++ le 4 nominal ++
      [BitVec.ofNat 8 format.dataBits, BitVec.ofNat 8 format.parity.code,
        BitVec.ofNat 8 format.stopBits, if regained then 1#8 else 0#8]
  | .degraded reason errors offset =>
    v = [if reason = .errors then 0#8 else 1#8] ++ le 2 errors ++ [BitVec.ofInt 8 offset]
  | .released reason => v = [if reason = .holdover then 0#8 else 1#8]
  | .failed outcome retry => v = [BitVec.ofNat 8 outcome.code, BitVec.ofNat 8 retry]
  | .profile epoch line =>
    v = [epoch, BitVec.ofNat 8 line.rate.val, BitVec.ofNat 8 line.format.dataBits,
      BitVec.ofNat 8 line.format.parity.code, BitVec.ofNat 8 line.format.stopBits,
      BitVec.ofNat 8 line.polarity.code]
  | .ready =>
    v = le 2 st.queue.length ++ le 4 (st.queue.map fun r => r.bytes.length).sum
  | .fill crossings =>
    v = [if st.fill = .high then 1#8 else 0#8] ++ le 2 st.held ++ le 2 crossings
  | .expired id returned => v = le 2 id ++ [BitVec.ofNat 8 returned]
  | .dropped count =>
    ∀ seq, st.lastDropped = some seq → v = le 2 count ++ le 4 seq.toNat
  | .started _ _ | .linkError _ _ _ _ | .pool _ => True

/-- R144, R181: the kind values `v` of a notice in a device slot with these values, sent in `s`.
Those of POOL but for the failures are read from the pools at the send. -/
def State.DeviceKindValues (s : State) (values : NoticeValues) (v : List Byte) : Prop :=
  match values with
  | .started reason revision =>
    v = [match reason with | .power => 0#8 | .pin => 1#8 | .soft => 2#8, BitVec.ofNat 8 revision]
  | .linkError crc length timeout overrun =>
    v = le 2 crc ++ le 2 length ++ le 2 timeout ++ le 2 overrun
  | .pool failures =>
    v = le 2 s.pools.freeSegments ++ le 2 s.pools.freeDescriptors ++ le 2 failures
  | .locked _ _ _ _ | .degraded _ _ _ | .released _ | .failed _ _ | .profile _ _ | .ready | .fill _
  | .expired _ _ | .dropped _ => True

/-! ### A request taken and answered (R174, R175, R176) -/

/-- R174: the controller can take the request `f`: the device runs, no RESTART waits, the response
queue has room, and `f` is the inbox head with `rest` behind it. -/
structure State.CanTake (s : State) (f : Frame) (rest : List Frame) : Prop where
  running : s.resetAsserted = false
  dispatching : s.link.restart = .idle
  room : s.link.responses.length < 4
  head : s.link.inbox = f :: rest

/-- R175: the response to `f` with this body. -/
def responseTo (f : Frame) (body : List Byte) : Response :=
  { kind := f.kind + 0x80#8, tag := f.tag, channel := f.channel, body := body }

/-- R174, R175: the link after `f`, with `rest` behind it, has been taken and answered. -/
def HostLink.answered (l : HostLink) (f : Frame) (rest : List Frame) (body : List Byte) :
    HostLink :=
  { l with inbox := rest, responses := l.responses ++ [responseTo f body] }

/-- R176: the cache entry of `f` answered with this body. -/
def cacheEntryOf (f : Frame) (body : List Byte) : CacheEntry :=
  { tag := f.tag, kind := f.kind, channel := f.channel, check := f.check, body := body }

/-- R176: the link after a mutating request `f` has been executed and answered. -/
def HostLink.answeredCached (l : HostLink) (f : Frame) (rest : List Frame) (body : List Byte) :
    HostLink :=
  { l.answered f rest body with cache := cacheAfter l.cache f body }

/-- R174, R175: `s` after `f` has been taken and answered, nothing else changed. -/
def State.replied (s : State) (f : Frame) (rest : List Frame) (body : List Byte) : State :=
  { s with link := s.link.answered f rest body }

/-- R176: `s` after a mutating request `f` has been executed and answered, its effects apart. -/
def State.repliedCached (s : State) (f : Frame) (rest : List Frame) (body : List Byte) : State :=
  { s with link := s.link.answeredCached f rest body }

/-- R176: no entry of the reply cache recognises `f`. -/
def State.Fresh (s : State) (f : Frame) : Prop :=
  ∀ e ∈ s.link.cache,
    ¬(e.tag = f.tag ∧ e.kind = f.kind ∧ e.channel = f.channel ∧ e.check = f.check)

/-- A channel request `f` of kind `kind` and body `body` on channel `c`, which the controller can
take. -/
structure State.Asked (s : State) (c : Channel) (kind : Byte) (body : List Byte) (f : Frame)
    (rest : List Frame) : Prop where
  taken : s.CanTake f rest
  kind : f.kind = kind
  channel : f.channel = BitVec.ofNat 8 c.val
  body : f.body = body

/-- A device request `f` of kind `kind` and body `body`, which the controller can take. -/
structure State.AskedDevice (s : State) (kind : Byte) (body : List Byte) (f : Frame)
    (rest : List Frame) : Prop where
  taken : s.CanTake f rest
  kind : f.kind = kind
  channel : f.channel = 0xFF#8
  body : f.body = body

/-- The other channels are as they were. -/
def State.OthersAs (t s : State) (c : Channel) : Prop := ∀ d, d ≠ c → t.chan d = s.chan d

/-! ### The closing of a record, whatever closes it (R99, R100, R104, R114, R115) -/

/-- R100, R114, R115: a channel's store after record `r` of channel `c` has closed. An empty record
leaves no trace; another takes the next seq, and joins the queue's tail or is the last dropped. -/
def ChannelStore.closing (st : ChannelStore) (c : Channel) (r : OpenRecord) (cause : Cause)
    (endTime : BitVec 32) : ChannelStore :=
  if r.bytes = [] ∧ r.lost = 0 then st
  else if r.hasDescriptor then
    { st with
      nextSeq := st.nextSeq + 1
      queue := st.queue ++ [r.closed c st.nextSeq cause endTime] }
  else { st with nextSeq := st.nextSeq + 1, lastDropped := some st.nextSeq }

/-- R100, R114, R115: a channel's statistics after `r` has closed. -/
def Statistics.closing (x : Statistics) (r : OpenRecord) : Statistics :=
  if r.bytes = [] ∧ r.lost = 0 then x
  else if r.hasDescriptor then
    { x with
      recordsClosed := min 4294967295 (x.recordsClosed + 1)
      bytesStored := min 4294967295 (x.bytesStored + r.bytes.length)
      bytesLost := min 4294967295 (x.bytesLost + r.lost) }
  else
    { x with
      recordsDropped := min 4294967295 (x.recordsDropped + 1)
      bytesLost := min 4294967295 (x.bytesLost + r.lost) }

/-- R100: the pools after `r` has closed: an empty record gives its descriptor back. -/
def Pools.closing (p : Pools) (r : OpenRecord) : Pools :=
  if r.bytes = [] ∧ r.lost = 0 ∧ r.hasDescriptor = true then
    { p with freeDescriptors := p.freeDescriptors + 1 }
  else p

/-- R17, R104: a channel after its pending framing update, if there is one, has been applied with no
record open. -/
def Chan.updated (k : Chan) : Chan :=
  if k.pendingUpdate then
    { k with
      pendingUpdate := false
      working :=
        { k.working with
          framing := k.given.framing
          epoch :=
            if k.working.framing = k.given.framing then k.working.epoch else k.working.epoch + 1 }
      framer :=
        { k.framer with
          gapTimer := if k.given.framing.gapLimit = 0 then none else k.framer.gapTimer
          preamble :=
            if k.working.framing.startChar ≠ none ∧ k.given.framing.startChar = none then 0
            else k.framer.preamble } }
  else k

/-- R99: channel `c` after its open record, if it has one, has closed with `cause` at `endTime`. -/
def Chan.closing (k : Chan) (c : Channel) (cause : Cause) (endTime : BitVec 32) : Chan :=
  match k.openRecord? with
  | none => k
  | some r =>
    { k with
      framer := { k.framer with state := .between }
      store := k.store.closing c r cause endTime
      stats := k.stats.closing r }.updated

/-- R99, R114, R115: the device after the open record of `c`, if it has one, has closed: READY
posted for a record that has joined the queue, DROPPED for a dropped one. -/
def State.closing (s : State) (c : Channel) (cause : Cause) (endTime : BitVec 32) : State :=
  match (s.chan c).openRecord? with
  | none => s
  | some r =>
    { s.modChan c fun k => k.closing c cause endTime with
      pools := s.pools.closing r
      notices :=
        if r.bytes = [] ∧ r.lost = 0 then s.notices
        else if r.hasDescriptor then (s.postChan c .ready .ready).notices
        else (s.postChan c .dropped (.dropped 1)).notices }

/-! ### The gap expiry (R92) -/

/-- R92: the expiry at `x` waits: the sampler is on a start edge dated before it, or a change of the
line dated before it has still to pass the glitch filter. -/
def Chan.GapWaits (k : Chan) (x : Instant) : Prop :=
  (∃ t per, (k.sampler.decode = .sampling t per ∨ k.sampler.decode = .spaceHeld t per) ∧
      t * x.den < x.num) ∨
    (∃ d, k.sampler.pendingChange = some d ∧ d * x.den < x.num)

/-! ### The characters of a record (R78, R81, R95 to R97, R111, R112, R120) -/

/-- R78, R80, R81: at `now` the sampler of `k`, on the start edge `t` under the period `per`, can
decide a character, which the device does at tick `moment`; it then hunts for a start edge dated
after `since`. In SAMPLING that is the last stop-bit sample, the start bit being at space and the
line not at space throughout, once every change up to the sample has passed the filter; in
SPACE_HELD it is the edge to mark that comes before the break instant. -/
def Chan.Decides (k : Chan) (now t per since moment : Nat) : Prop :=
  let cb := k.working.line.format.charBits
  let space := k.working.line.polarity.space
  (k.sampler.decode = .sampling t per ∧ since = lastSample t per cb ∧
      moment = since + k.config.glitchLimit ∧
      (∀ d, k.sampler.pendingChange = some d → since < d) ∧
      levelAt space k.sampler.edges (startSample t per) = space ∧
      ∃ e ∈ k.sampler.edges, e.tick ≤ since) ∨
    (k.sampler.decode = .spaceHeld t per ∧ moment = now ∧
      k.sampler.edges.head?.map Edge.tick = some since ∧
      256 * since < 256 * t + (cb + 1) * per)

/-- R97: the error summary of record `r` after one more character. -/
def OpenRecord.accounted (r : OpenRecord) (x : Character) : OpenRecord :=
  { r with
    parityErrors := if x.parityOk then r.parityErrors else min 255 (r.parityErrors + 1)
    framingErrors := if x.framingOk then r.framingErrors else min 255 (r.framingErrors + 1)
    firstError :=
      if x.parityOk = true ∧ x.framingOk = true then r.firstError
      else if r.firstError = none then some (r.bytes.length + r.lost) else r.firstError }

/-- The framer of `c` in OPEN with the progress `r`. -/
def State.opened (s : State) (c : Channel) (r : OpenRecord) : State :=
  s.modFramer c fun f => { f with state := .inRecord r }

/-- R96, R108, R111, R112, R120: the byte `v` of channel `c`'s open record `r` stored, or counted
lost. A dropped or truncated record stores nothing; every 32nd byte asks for a segment, which the
cap refuses first and then the pool; a grant evaluates the fill state. -/
def State.storing (s : State) (c : Channel) (r : OpenRecord) (v : Byte) : State :=
  let k := s.chan c
  let kept := s.opened c { r with bytes := r.bytes ++ [v] }
  let lost := s.opened c { r with truncated := true, lost := r.lost + 1 }
  let grown := k.store.held + 1
  let fill : Fill :=
    if k.config.highMark ≤ grown then .high else if grown ≤ k.config.lowMark then .low
    else k.store.fill
  if r.hasDescriptor = false ∨ r.truncated = true then lost
  else if r.bytes.length % 32 ≠ 0 then kept
  else if k.config.segmentCap ≤ k.store.held then
    { lost with pools :=
      { s.pools with capRefusals := min 4294967295 (s.pools.capRefusals + 1) } }
  else if s.pools.freeSegments = 0 then
    { lost with
      pools := { s.pools with poolRefusals := min 4294967295 (s.pools.poolRefusals + 1) }
      notices := (s.post (.device .pool) (.pool 1)).notices }
  else
    { kept.modStore c (fun st =>
        { st with
          held := grown
          fill := fill
          hold :=
            if fill = k.store.fill then k.store.hold
            else k.config.holdEnable && decide (k.config.mode = .listen) &&
              decide (fill = .high) }) with
      pools := { s.pools with freeSegments := s.pools.freeSegments - 1 }
      notices :=
        if fill = k.store.fill then s.notices else (s.postChan c .fill (.fill 1)).notices }

/-- R95, R97: the character `x` of channel `c`'s open record `r`. In DELIM mode a delimiter closes
the record, stored before if it is kept; any other character is stored, and closes the record with
cause LENGTH or OVERSIZE at the record length or the max record length. A start character that opens
the record is no delimiter. -/
def State.recording (s : State) (c : Channel) (r : OpenRecord) (x : Character) (starts : Bool) :
    State :=
  let f := (s.chan c).working.framing
  let a := r.accounted x
  let stored := s.storing c a x.value
  let count := r.bytes.length + r.lost + 1
  let ended := BitVec.ofNat 32 (x.endInstant.num / x.endInstant.den / 48)
  if f.mode = .delim ∧ x.value ∈ f.delimiters ∧ starts = false then
    (if f.delimiterKept then stored else s.opened c a).closing c .delim ended
  else if f.mode = .length ∧ f.recordLength ≤ count then stored.closing c .length ended
  else if f.maxRecordLength ≤ count then stored.closing c .oversize ended
  else stored

/-! ### Whole numbers from exact ones (R77, R85) -/

/-- R77, R85: `v` is `m` rounded toward zero. -/
def Truncates (v : Int) (m : Rat) : Prop :=
  (0 ≤ m → 0 ≤ v ∧ (v : Rat) ≤ m ∧ m < (v : Rat) + 1) ∧
    (m ≤ 0 → v ≤ 0 ∧ m ≤ (v : Rat) ∧ (v : Rat) - 1 < m)

/-! ### The candidate list (R6, R8, R57 to R59) -/

/-- R8: one field passes its mask: the mask holds its bit, or is empty and the field is as given. -/
def passesMask {w : Nat} (mask : BitVec w) (bit : Nat) (asGiven : Prop) : Prop :=
  (mask = 0 → asGiven) ∧ (mask ≠ 0 → mask.getLsbD bit = true)

/-- R1, R8: a format of the ladder that passes the masks of `n`. -/
def Snapshot.PermitsFormat (n : Snapshot) (f : Format) : Prop :=
  5 ≤ f.dataBits ∧ f.dataBits ≤ 8 ∧ 1 ≤ f.stopBits ∧ f.stopBits ≤ 2 ∧
  passesMask n.search.dataMask (f.dataBits - 5) (f.dataBits = n.given.format.dataBits) ∧
  passesMask n.search.parityMask f.parity.code (f.parity = n.given.format.parity) ∧
  passesMask n.search.stopMask (f.stopBits - 1) (f.stopBits = n.given.format.stopBits)

/-- R57: a rate index that is permitted, defined and within the tolerance of the estimate. -/
def Snapshot.EligibleRate (n : Snapshot) (estimate : Nat) (i : Fin 16) : Prop :=
  passesMask n.search.rateMask i.val (i = n.given.rate) ∧ n.rates[i.val] ≠ 0 ∧
  estimate * 100 ≤ n.rates[i.val] * 100 + estimate * n.tolerance ∧
  n.rates[i.val] * 100 ≤ estimate * 100 + estimate * n.tolerance

/-- R57: how far the entry of a rate index lies from the estimate. -/
def Snapshot.distance (n : Snapshot) (estimate : Nat) (i : Fin 16) : Nat :=
  ((n.rates[i.val] : Int) - estimate).natAbs

/-- R58: the rank of a polarity: first the one that matches the observed idle level. -/
def Snapshot.polarityRank (n : Snapshot) (p : Polarity) : Nat :=
  if p = .normal ↔ n.idleLevel = .high then 0 else 1

/-- R6: the rank of a parity on the ladder. -/
def Parity.rank : Parity → Nat
  | .even => 0
  | .odd => 1
  | .mark => 2
  | .space => 3
  | .none => 4

/-- R6, R59: the rank of a format: the given format first, then by ladder position. -/
def Snapshot.formatRank (n : Snapshot) (f : Format) : Nat :=
  if f = n.given.format then 0
  else 1 + (8 * f.parity.rank + 2 * (8 - f.dataBits) + (f.stopBits - 1))

/-- R57 to R60: candidate `x` stands before candidate `y`: by nearness of the rate, rate index,
polarity and format, the rate the outermost key. -/
def Snapshot.Ahead (n : Snapshot) (estimate : Nat) (x y : Candidate) : Prop :=
  let d := n.distance estimate
  let i := x.line.rate
  let j := y.line.rate
  d i < d j ∨ (d i = d j ∧ (i < j ∨ (i = j ∧
    (n.polarityRank x.line.polarity < n.polarityRank y.line.polarity ∨
      (n.polarityRank x.line.polarity = n.polarityRank y.line.polarity ∧
        n.formatRank x.line.format < n.formatRank y.line.format)))))

/-- R21, R24, R42, R44: a channel whose state's work is over: no timer runs, the window is stopped,
and a channel that decoded has its sampler stopped and its framer in IDLE. -/
def Chan.workUndone (k : Chan) : Chan :=
  let was := k.ctl.lock.decoding
  { k with
    ctl :=
      { k.ctl with
        windowChars := 0
        windowErrors := 0
        gatherTimer := none
        holdoverTimer := none
        dormantTimer := none }
    sampler :=
      { k.sampler with
        decode := .stopped
        edges := if was then [] else k.sampler.edges
        offsetCount := if was then 0 else k.sampler.offsetCount
        offsetSum := if was then 0 else k.sampler.offsetSum }
    framer := if was then { state := .idle, preamble := 0, gapTimer := none } else k.framer }

/-- R76: the sampler's capture cleared. -/
def Sampler.captureCleared (p : Sampler) : Sampler :=
  { p with ring := [], lastCapture := none, idleLevel := .high }

/-- R13, R15: a channel after a whole copy of its given profile. -/
def Chan.copied (k : Chan) (rates : Vector Nat 16) : Chan :=
  let nominal := rates[k.given.line.rate.val]
  { k with
    working :=
      { line := k.given.line
        nominal := nominal
        framing := k.given.framing
        confirmed := false
        epoch :=
          if k.working.line = k.given.line ∧ k.working.nominal = nominal ∧
              k.working.framing = k.given.framing
            then k.working.epoch else k.working.epoch + 1 }
    pendingUpdate := false }

/-- R50: the Trial Unit with channel `c` out of its queue. -/
def TrialUnit.without (u : TrialUnit) (c : Channel) : TrialUnit :=
  { u with queue := u.queue.filter fun d => decide (d ≠ c) }

/-- R68: the report of trial `tr` abandoned at tick `now`. -/
def Trial.abandonedReport (tr : Trial) (now : Nat) : TrialReport :=
  { outcome := .abandoned
    evaluated := tr.position
    estimate := tr.estimate
    chosen := none
    completed := BitVec.ofNat 32 (now / 48) }

/-- R68: `s` after the trial `tr` of channel `c` has been abandoned: the report stored, the
abandonment counted, the unit free. -/
def State.abandoned (s : State) (c : Channel) (tr : Trial) : State :=
  { s.modChan c fun k =>
      { k with
        ctl := { k.ctl with report := some (tr.abandonedReport s.time.ticks) }
        stats :=
          { k.stats with abandonedTrials := min 4294967295 (k.stats.abandonedTrials + 1) } } with
    trial := { s.trial with service := none } }

/-- The edges of a line that sends `bits` (true for mark) one after another, `q` ticks each, the
first of them `i` bit periods after tick `t`, the line having stood at `before`: an edge at each
boundary at which the level changes. -/
def lineEdges (pol : Polarity) (t q i : Nat) (before : Bool) : List Bool → List Edge
  | [] => []
  | b :: rest =>
    if b = before then lineEdges pol t q (i + 1) b rest
    else
      { tick := t + i * q, level := if b then pol.mark else pol.space } ::
        lineEdges pol t q (i + 1) b rest

/-- One row of the table of section 10.7: a request's kind code, its command, its body length, and
whether it is a device kind. -/
structure RequestRow where
  kind : Byte
  command : Instr
  length : Nat
  device : Bool

/-- The table of section 10.7 (R179). -/
def requestTable : List RequestRow :=
  [⟨0x01#8, .hello, 0, true⟩, ⟨0x02#8, .time, 0, true⟩, ⟨0x03#8, .setRates, 64, true⟩,
   ⟨0x04#8, .getRates, 0, true⟩, ⟨0x05#8, .configure, 29, false⟩, ⟨0x06#8, .getConfig, 0, false⟩,
   ⟨0x07#8, .setGiven, 25, false⟩, ⟨0x08#8, .getGiven, 0, false⟩, ⟨0x09#8, .acquire, 0, false⟩,
   ⟨0x0A#8, .status, 0, false⟩, ⟨0x0B#8, .stats, 1, false⟩, ⟨0x0C#8, .pool, 0, true⟩,
   ⟨0x0D#8, .take, 3, false⟩, ⟨0x0E#8, .fetch, 7, false⟩, ⟨0x0F#8, .release, 3, false⟩,
   ⟨0x10#8, .close, 0, false⟩, ⟨0x11#8, .purge, 0, false⟩, ⟨0x12#8, .credit, 1, true⟩,
   ⟨0x13#8, .resetChannel, 0, false⟩, ⟨0x14#8, .restart, 0, true⟩]

/-- Whether the channel field of `f` suits a row (R174, check 3). -/
def RequestRow.suits (row : RequestRow) (f : Frame) : Bool :=
  if row.device then f.channel == 0xFF#8 else decide (f.channel.toNat < 8)

/-- R176: the mutating requests. -/
def RequestRow.mutating (row : RequestRow) (f : Frame) : Bool :=
  match row.command with
  | .setRates | .configure | .setGiven | .acquire | .take | .release | .close | .purge | .credit
  | .resetChannel => true
  | .stats => decide (f.body = [0x01#8])
  | _ => false

/-- Commands carried out one after another, as long as each answers a next state. -/
def runAll : List Instr → State → Host.Outcome State Fault Refusal
  | [], s => .next s
  | i :: rest, s =>
    match exec i s with
    | .next t => runAll rest t
    | o => o

/-- R157, R179: the fields of a configuration record fit their places in the 29 bytes. -/
structure ChannelConfig.Fits (k : ChannelConfig) : Prop where
  glitchLimit : k.glitchLimit < 256
  gatherTarget : k.gatherTarget < 65536
  gatherQuietMs : k.gatherQuietMs < 65536
  minCharacters : k.minCharacters < 256
  candidateBudget : k.candidateBudget < 65536
  retryLimit : k.retryLimit < 256
  tolerance : k.tolerance < 256
  windowLength : k.windowLength < 65536
  errorThreshold : k.errorThreshold < 65536
  holdoverMs : k.holdoverMs < 65536
  dormantS : k.dormantS < 65536
  segmentCap : k.segmentCap < 65536
  highMark : k.highMark < 65536
  lowMark : k.lowMark < 65536
  leaseTimeoutMs : k.leaseTimeoutMs < 65536

/-- R9, R180: the checks of SET_GIVEN on the 25 bytes of a given profile block, byte by byte. -/
def givenBlockLegal (b : List Byte) (rates : Vector Nat 16) : Bool :=
  let at_ (i : Nat) : Nat := field b i 1
  decide (at_ 0 < 16) && rates.toList.getD (at_ 0) 0 != 0 &&
  decide (5 ≤ at_ 1) && decide (at_ 1 ≤ 8) && decide (at_ 2 ≤ 4) &&
  decide (1 ≤ at_ 3) && decide (at_ 3 ≤ 2) && decide (at_ 4 ≤ 1) &&
  decide (at_ 7 < 16) && decide (at_ 8 < 32) && decide (at_ 9 < 4) && decide (at_ 10 ≤ 1) &&
  decide (at_ 11 ≤ 2) && decide (at_ 12 ≤ 64) && decide (at_ 13 ≤ 4) && decide (at_ 18 ≤ 1) &&
  decide (at_ 19 ≤ 1) &&
  decide (1 ≤ field b 21 2) && decide (field b 21 2 ≤ 2048) &&
  decide (1 ≤ field b 23 2) && decide (field b 23 2 ≤ 2048) &&
  (match at_ 11 with
   | 0 => decide (2 ≤ at_ 12)
   | 1 => decide (1 ≤ at_ 13)
   | _ => decide (field b 21 2 ≤ field b 23 2))

end Sys2Proof.Machine
end

