-- ==== Sys2Proof/Certificates/Slice0/Obligations.lean ====
section
/-! DEFINITION. The statements for the provers, from the numbered rules of spec/. -/

section StatementsForTheProvers

open Sys2Proof Sys2Proof.Machine

/-! ### The step -/

/-- One step takes the command at the front of the queue and runs it on the rest. It rests on the
model's choices in notes/assumptions/1.md, notes/assumptions/27.md. -/
def Obligations.StepRunsFrontCommand : Prop :=
  ∀ (s : State) (i : Instr) (rest : List Instr),
    s.pending = i :: rest → step s = exec i { s with pending := rest }

/-- Every command answers a next state in every state, and leaves the queue of commands alone. It
rests on the model's choices in notes/assumptions/3.md. -/
def Obligations.EveryCommandCompletes : Prop :=
  ∀ (i : Instr) (s : State), ∃ t, exec i s = .next t ∧ t.pending = s.pending

/-- R170: while RESET is asserted no command but a reset, its end and the movement of a line pin
changes anything. It rests on the model's choices in notes/assumptions/15.md. -/
def Obligations.NothingHappensWhileResetIsAsserted : Prop :=
  ∀ (i : Instr) (s : State), s.resetAsserted = true →
    (∀ cause, i ≠ .hardwareReset cause) → (∀ a b, i ≠ .resetDeasserted a b) →
    (∀ c e, i ≠ .lineInputChange c e) → exec i s = .next s

/-! ### The laws that every step keeps -/

/-- R70: the counter and the wrap count stay the microseconds since RESET was deasserted. -/
def Obligations.StepKeepsTimeLaw : Prop :=
  ∀ s t : State, s.TimeLaw → step s = .next t → t.TimeLaw

/-- R170: whatever the step, a hardware reset included, a device whose RESET is asserted after it
has every block at its hardware reset value. It rests on the model's choices in
notes/assumptions/15.md. -/
def Obligations.StepKeepsResetLaw : Prop :=
  ∀ s t : State, s.ResetLaw → step s = .next t → t.ResetLaw

/-- R18, R42, R44, R48, R78, R88: the blocks of every channel stay as its lock state requires, and
the trial queue and the service stay those of the QUEUED and the TRIAL channels. It rests on the
model's choices in notes/assumptions/15.md. -/
def Obligations.StepKeepsLockLaw : Prop :=
  ∀ s t : State, s.ResetLaw → s.LockLaw → step s = .next t → t.LockLaw

/-- R108, R109, R110: no segment and no descriptor is ever lost or made. It rests on the model's
choices in notes/assumptions/15.md, notes/assumptions/20.md. -/
def Obligations.StepKeepsPoolLaw : Prop :=
  ∀ s t : State, s.ResetLaw → s.LockLaw → s.PoolLaw → step s = .next t → t.PoolLaw

/-- R120, R122, R157: configurations stay legal, fill states stay within the marks, and every HOLD
output follows enable, mode and fill state. -/
def Obligations.StepKeepsFillLaw : Prop :=
  ∀ s t : State, s.FillLaw → step s = .next t → t.FillLaw

/-- R142, R143, R147: every slot holds at most one pending notice, of its own kind. -/
def Obligations.StepKeepsNoticeLaw : Prop :=
  ∀ s t : State, s.NoticeLaw → step s = .next t → t.NoticeLaw

/-- R174, R175, R176: the inbox, the response queue and the reply cache keep their bounds, and the
cache its distinct tags. -/
def Obligations.StepKeepsLinkLaw : Prop :=
  ∀ s t : State, s.LinkLaw → step s = .next t → t.LinkLaw

/-- R126, R127: every lease stays legal, and the lease id counter stays in 1..65535. -/
def Obligations.StepKeepsLeaseLaw : Prop :=
  ∀ s t : State, s.LeaseLaw → step s = .next t → t.LeaseLaw

/-- R1, R2, R3, R9, R12, R56: rate entries, given profiles and working profiles stay legal, in
their line fields, nominal rate and framing fields, and so do the copies and the candidates of the
trial in service. R14, R51, R57, R77: a confirmed profile and a candidate have a nominal rate
other than 0, and the bit clock of a decoding channel, with that of its character in hand, stays
between 0.875 and 1.125 of the nominal period, so that no period is 0. It rests on the model's
choices in notes/assumptions/15.md. -/
def Obligations.StepKeepsProfileLaw : Prop :=
  (∀ s t : State, s.ProfileLaw → step s = .next t → t.ProfileLaw) ∧
  (∀ s t : State, s.ResetLaw → s.LockLaw → s.ProfileLaw → s.PeriodLaw → step s = .next t →
    t.PeriodLaw)

/-- The state after reset obeys every law. It rests on the model's choices in
notes/assumptions/2.md, notes/assumptions/19.md. -/
def Obligations.ResetObeysEveryLaw : Prop :=
  State.reset.ResetLaw ∧ State.reset.TimeLaw ∧ State.reset.LockLaw ∧ State.reset.PoolLaw ∧
    State.reset.FillLaw ∧ State.reset.NoticeLaw ∧ State.reset.LinkLaw ∧ State.reset.LeaseLaw ∧
    State.reset.ProfileLaw ∧ State.reset.PeriodLaw

/-! ### Bytes and their meaning -/

/-- R157, R179: a legal configuration record is 29 bytes, and CONFIGURE reads from them the record
that was written. -/
def Obligations.ConfigurationRecordRoundTrip : Prop :=
  ∀ k : ChannelConfig, k.valid = true → k.encode.length = 29 ∧ parseConfig k.encode = some k

/-- R9, R180: a legal given profile is 25 bytes, and SET_GIVEN reads from them the profile that
was written, when its rate index names a defined entry. -/
def Obligations.GivenProfileRoundTrip : Prop :=
  ∀ (g : GivenProfile) (rates : Vector Nat 16), g.valid = true →
    rates[g.line.rate.val] ≠ 0 → g.encode.length = 25 ∧ parseGiven g.encode rates = some g

/-- R172, R173, R179: a frame sent byte by byte to a UART receiver in HUNT, with at most 20 ms
between bytes and room in the inbox, enters the inbox as it was sent, and no error is posted. It
rests on the model's choices in notes/assumptions/4.md, notes/assumptions/8.md. -/
def Obligations.SentFrameEntersInbox : Prop :=
  ∀ (s : State) (kind tag channel : Byte) (body : List Byte) (gap : Nat),
    s.resetAsserted = false → s.link.selection ≠ .spi → s.link.restart = .idle →
    s.link.receiver.state = .hunt → s.link.inbox.length < 4 → body.length ≤ 1088 →
    gap ≤ 960000 →
    ∃ t, runAll
        ((frameBytes kind tag channel body).map (fun b => Instr.receivedByte gap b false) ++
          [.frameReceived]) s = .next t ∧
      t.link.inbox = s.link.inbox ++
        [{ kind := kind, tag := tag, channel := channel, body := body,
           check := crc16 (coveredBytes kind tag channel body) }] ∧
      t.link.receiver.state = .hunt ∧ t.link.responses = s.link.responses ∧
      t.link.cache = s.link.cache ∧ t.link.transmit = s.link.transmit ∧
      t.notices = s.notices ∧ t.chans = s.chans ∧ t.rates = s.rates ∧ t.trial = s.trial ∧
      t.pools = s.pools ∧ t.leaseCounter = s.leaseCounter

/-- R77, R80, R81, R82: a character whose bits last `q` whole ticks each is read right under every
format: its value, its parity, its stop bits and its end. `bits` are the data bits, least
significant first, `parityBit` and `stops` say whether the parity bit and each stop bit are mark;
a stop bit at space is a framing error. A line at space from the start edge through the last
stop-bit sample reads as value 0 with a framing error, its parity judged on a parity bit at space.
Whatever the period, the end lies exactly the character bits times the period after the start
edge. -/
def Obligations.CharacterIsReadAtMidBits : Prop :=
  (∀ (l : LineFields) (t q : Nat) (bits stops : List Bool) (parityBit : Bool),
    2 ≤ q → bits.length = l.format.dataBits → l.format.dataBits ≤ 8 →
    stops.length = l.format.stopBits →
      decodeCharacter l
          (lineEdges l.polarity t q 1 false
            (bits ++ List.replicate l.format.parity.bits parityBit ++ stops)) t (256 * q) =
        { value := BitVec.ofNat 8 (valueOfBits bits)
          parityOk := !l.format.parity.isError (marksIn bits) parityBit
          framingOk := stops.all id
          startTime := BitVec.ofNat 32 (t / 48)
          endInstant := { num := 256 * (t + l.format.charBits * q), den := 256 } }) ∧
  (∀ (l : LineFields) (t per : Nat) (edges : List Edge),
    1 ≤ l.format.stopBits →
    (∀ e ∈ edges, lastSample t per l.format.charBits < e.tick) →
    let x := decodeCharacter l edges t per
    x.value = 0 ∧ x.framingOk = false ∧ x.parityOk = !l.format.parity.isError 0 false) ∧
  (∀ (l : LineFields) (t per : Nat) (edges : List Edge),
    let x := decodeCharacter l edges t per
    x.startTime = BitVec.ofNat 32 (t / 48) ∧
    x.endInstant = { num := 256 * t + l.format.charBits * per, den := 256 } ∧
    x.endTime = BitVec.ofNat 32 ((256 * t + l.format.charBits * per) / 256 / 48))

/-! ### Requests in general (R174 to R176) -/

/-- R174, R175: a request with a body of another length than its kind's is refused with
BAD_LENGTH, one whose channel field does not suit its kind with BAD_CHANNEL, and a kind not listed
is answered UNKNOWN_KIND under response kind FFh; nothing else changes, and none of them enters
the reply cache. -/
def Obligations.MisshapenRequestsAreRefused : Prop :=
  (∀ row ∈ requestTable, ∀ (s : State) (f : Frame) (rest : List Frame),
    s.CanTake f rest → f.kind = row.kind →
    (f.body.length ≠ row.length →
      exec row.command s = .next (s.replied f rest [0x06#8])) ∧
    (f.body.length = row.length → row.suits f = false →
      exec row.command s = .next (s.replied f rest [0x03#8]))) ∧
  (∀ (s : State) (f : Frame) (rest : List Frame), s.CanTake f rest →
    (∀ row ∈ requestTable, f.kind ≠ row.kind) →
    exec .unknownKind s =
      .next { s with link :=
        { s.link with
          inbox := rest
          responses := s.link.responses ++
            [{ kind := 0xFF#8, tag := f.tag, channel := f.channel, body := [0x07#8] }] } })

/-- R174, R178: no request, one of an unknown kind included, is taken while four responses wait,
or while a RESTART has been taken. -/
def Obligations.RequestsWaitInTheInbox : Prop :=
  ∀ s : State, (4 ≤ s.link.responses.length ∨ s.link.restart ≠ .idle) →
    (∀ row ∈ requestTable, exec row.command s = .next s) ∧ exec .unknownKind s = .next s

/-- R176: a mutating request that an entry of the cache recognises is answered with a copy of the
cached body and not executed. -/
def Obligations.RetransmissionIsNotExecutedAgain : Prop :=
  ∀ row ∈ requestTable, ∀ (s : State) (f : Frame) (rest : List Frame) (e : CacheEntry),
    s.CanTake f rest → f.kind = row.kind → f.body.length = row.length → row.suits f = true →
    row.mutating f = true → (s.link.cache.map CacheEntry.tag).Nodup → e ∈ s.link.cache →
    e.tag = f.tag → e.kind = f.kind → e.channel = f.channel → e.check = f.check →
    exec row.command s = .next (s.replied f rest e.body)

/-- R176: the reply cache after a mutating request has been executed: a new tag is entered as the
newest, the oldest of eight going first; a known tag's entry is replaced and becomes the newest. -/
def Obligations.CacheEntersNewestResponse : Prop :=
  ∀ (cache : List CacheEntry) (f : Frame) (body : List Byte),
    ((∀ e ∈ cache, e.tag ≠ f.tag) → cache.length < 8 →
      cacheAfter cache f body = cache ++ [cacheEntryOf f body]) ∧
    ((∀ e ∈ cache, e.tag ≠ f.tag) → cache.length = 8 →
      cacheAfter cache f body = cache.tail ++ [cacheEntryOf f body]) ∧
    (∀ (before : List CacheEntry) (e : CacheEntry) (behind : List CacheEntry),
      cache = before ++ e :: behind → e.tag = f.tag → (cache.map CacheEntry.tag).Nodup →
      cache.length ≤ 8 → cacheAfter cache f body = before ++ behind ++ [cacheEntryOf f body])

/-! ### Reading requests (R5, R11, R155, R156, R160, R161, R164) -/

/-- R155, R156, R164: HELLO answers the part's identity byte for byte, TIME the counter and the
wrap count of one moment, POOL the free counts and the three refusal counters; none changes
anything. -/
def Obligations.DeviceReadingsAreAnswered : Prop :=
  ∀ (s : State) (f : Frame) (rest : List Frame),
    (s.AskedDevice 0x01#8 [] f rest →
      exec .hello s =
        .next (s.replied f rest
          [0x00#8, 0x57#8, 0x0A#8, 0x38#8, 0x4C#8, 0x03#8, 0x08#8, 0x00#8, 0x02#8, 0x20#8, 0x00#8,
           0x01#8, 0x40#8, 0x04#8])) ∧
    (s.AskedDevice 0x02#8 [] f rest →
      exec .time s =
        .next (s.replied f rest
          (0x00#8 :: (le 4 s.time.counter.toNat ++ le 2 s.time.wraps.toNat)))) ∧
    (s.AskedDevice 0x0C#8 [] f rest →
      exec .pool s =
        .next (s.replied f rest
          (0x00#8 :: (le 2 s.pools.freeSegments ++ le 2 s.pools.freeDescriptors ++
            le 4 s.pools.capRefusals ++ le 4 s.pools.poolRefusals ++
            le 4 s.pools.descriptorRefusals))))

/-- R5: GET_RATES answers the sixteen entries in index order, 32 bits each, and changes no state;
a channel field other than FFh gives BAD_CHANNEL. -/
def Obligations.GetRatesAnswersTheTable : Prop :=
  (∀ (s : State) (f : Frame) (rest : List Frame), s.AskedDevice 0x04#8 [] f rest →
    exec .getRates s =
      .next (s.replied f rest
        (0x00#8 :: s.rates.toList.flatMap fun r => le 4 r))) ∧
  (∀ (s : State) (f : Frame) (rest : List Frame), s.CanTake f rest → f.kind = 0x04#8 →
    f.body = [] → f.channel ≠ 0xFF#8 →
    exec .getRates s = .next (s.replied f rest [0x03#8]))

/-- R11, R160: GET_CONFIG and GET_GIVEN answer the record and the block as last written, in the
layout in which they were written, and change nothing. R157, R179, R180: the 29 bytes of the
configuration record and the 25 of the given profile block, field by field at their offsets. -/
def Obligations.WrittenRecordsAreReadBack : Prop :=
  (∀ (s : State) (c : Channel) (f : Frame) (rest : List Frame),
    (s.Asked c 0x06#8 [] f rest →
      exec .getConfig s =
        .next (s.replied f rest (0x00#8 :: (s.chan c).config.encode))) ∧
    (s.Asked c 0x08#8 [] f rest →
      exec .getGiven s =
        .next (s.replied f rest (0x00#8 :: (s.chan c).given.encode)))) ∧
  (∀ k : ChannelConfig,
    let b := k.encode
    b.length = 29 ∧ field b 0 1 = (if k.mode = .off then 0 else 1) ∧
    field b 1 1 = k.glitchLimit % 256 ∧ field b 2 2 = k.gatherTarget % 65536 ∧
    field b 4 2 = k.gatherQuietMs % 65536 ∧ field b 6 1 = k.minCharacters % 256 ∧
    field b 7 2 = k.candidateBudget % 65536 ∧ field b 9 1 = k.retryLimit % 256 ∧
    field b 10 1 = k.tolerance % 256 ∧ field b 11 2 = k.windowLength % 65536 ∧
    field b 13 2 = k.errorThreshold % 65536 ∧ field b 15 2 = k.holdoverMs % 65536 ∧
    field b 17 2 = k.dormantS % 65536 ∧ field b 19 2 = k.segmentCap % 65536 ∧
    field b 21 2 = k.highMark % 65536 ∧ field b 23 2 = k.lowMark % 65536 ∧
    field b 25 1 = (if k.holdEnable then 1 else 0) ∧
    field b 26 1 = (if k.holdPolarity = .activeLow then 0 else 1) ∧
    field b 27 2 = k.leaseTimeoutMs % 65536) ∧
  (∀ g : GivenProfile,
    let b := g.encode
    b.length = 25 ∧ g.line.At b 0 ∧ field b 5 2 = g.search.rateMask.toNat ∧
    field b 7 1 = g.search.dataMask.toNat ∧ field b 8 1 = g.search.parityMask.toNat ∧
    field b 9 1 = g.search.stopMask.toNat ∧
    field b 10 1 = (if g.search.polaritySearch then 1 else 0) ∧ g.framing.At b 11)

/-- R161, R179: STATUS changes nothing, and its 74 bytes after the result code give the channel's
state at the offsets of the status record, the working profile in the layout of R180 within it.
The codes of R179 for the modes, the lock states, the trial outcomes, the parities, the
polarities, the framing modes and the fill levels follow. -/
def Obligations.StatusDescribesTheChannel : Prop :=
  (∀ (s : State) (c : Channel) (f : Frame) (rest : List Frame), s.Asked c 0x0A#8 [] f rest →
    ∃ b : List Byte,
      exec .status s = .next (s.replied f rest (0x00#8 :: b)) ∧
      b.length = 74 ∧
      field b 0 1 = (s.chan c).config.mode.code ∧
      field b 1 1 = (s.chan c).ctl.lock.code ∧
      field b 2 1 = (s.chan c).ctl.retryCount % 256 ∧
      fieldBytes b 3 23 = (s.chan c).working.encode ∧
      (s.chan c).working.line.At b 3 ∧
      field b 8 4 = (s.chan c).working.nominal % 4294967296 ∧
      (s.chan c).working.framing.At b 12 ∧
      field b 26 1 = (s.chan c).working.confirmed.toNat ∧
      field b 27 1 = (s.chan c).working.epoch.toNat ∧
      field b 28 1 = (s.chan c).pendingUpdate.toNat ∧
      ((s.chan c).ctl.lock.decoding = true →
        field b 29 2 = (s.chan c).ctl.windowChars % 65536 ∧
        field b 31 2 = (s.chan c).ctl.windowErrors % 65536 ∧
        fieldBytes b 33 1 = [BitVec.ofInt 8 (s.chan c).sampler.windowOffset]) ∧
      ((s.chan c).ctl.lock.decoding = false → fieldBytes b 29 5 = [0#8, 0#8, 0#8, 0#8, 0#8]) ∧
      fieldBytes b 34 1 = [BitVec.ofInt 8 (s.chan c).sampler.trackedOffset] ∧
      field b 35 1 = (s.chan c).ctl.report.isSome.toNat ∧
      ((s.chan c).ctl.report = none → fieldBytes b 36 20 = List.replicate 20 0#8) ∧
      (∀ r, (s.chan c).ctl.report = some r →
        field b 36 1 = r.outcome.code ∧ field b 37 2 = r.evaluated % 65536 ∧
        field b 39 4 = r.estimate.getD 0 % 4294967296 ∧
        (∀ x, r.chosen = some x →
          field b 43 1 = x.line.rate.val ∧ field b 44 4 = x.nominal % 4294967296 ∧
          field b 48 1 = x.line.format.dataBits % 256 ∧
          field b 49 1 = x.line.format.parity.code ∧
          field b 50 1 = x.line.format.stopBits % 256 ∧
          field b 51 1 = x.line.polarity.code) ∧
        (r.chosen = none → fieldBytes b 43 9 = List.replicate 9 0#8) ∧
        field b 52 4 = r.completed.toNat) ∧
      field b 56 2 = (s.chan c).store.queue.length % 65536 ∧
      field b 58 4 = byteSum (s.chan c).store.queue % 4294967296 ∧
      field b 62 2 = (s.chan c).openLength % 65536 ∧
      field b 64 2 = (s.chan c).store.held % 65536 ∧
      field b 66 1 = (s.chan c).store.fill.code ∧
      field b 67 1 = (s.chan c).store.hold.toNat ∧
      field b 68 1 = (s.chan c).store.lease.isSome.toNat ∧
      ((s.chan c).store.lease = none → fieldBytes b 69 5 = [0#8, 0#8, 0#8, 0#8, 0#8]) ∧
      (∀ l, (s.chan c).store.lease = some l →
        field b 69 2 = l.id % 65536 ∧ field b 71 1 = l.records.length % 256 ∧
        field b 72 2 = (l.expiry - s.time.ticks) / 48000 % 65536)) ∧
  ([.off, .listen] : List Mode).map Mode.code = [0, 1] ∧
  ([.off, .quiet, .gather, .queued, .trial, .align, .locked, .degraded, .failed] :
    List LockState).map LockState.code = [0, 1, 2, 3, 4, 5, 6, 7, 8] ∧
  ([.fit, .noRate, .noCandidate, .noFit, .budget, .abandoned] : List TrialOutcome).map
    TrialOutcome.code = [0, 1, 2, 3, 4, 5] ∧
  ([.none, .even, .odd, .mark, .space] : List Parity).map Parity.code = [0, 1, 2, 3, 4] ∧
  ([.normal, .inverted] : List Polarity).map Polarity.code = [0, 1] ∧
  ([.gap, .delim, .length] : List FramingMode).map FramingMode.code = [0, 1, 2] ∧
  ([.low, .high] : List Fill).map Fill.code = [0, 1]

/-- R163: STATS. A clear byte other than 0 and 1 is refused and nothing changes; the response
carries the fifteen statistics as they stand; with clear 1 they are set to 0 in the same moment
and the response is cached, so that a retransmission reads the first values and clears nothing.
R162: the statistics stand in the response in the order of the rule, four bytes each, the low byte
first. -/
def Obligations.StatsReadsAndClears : Prop :=
  (∀ (s : State) (c : Channel) (clear : Byte) (f : Frame) (rest : List Frame),
    s.Asked c 0x0B#8 [clear] f rest →
    (clear ≠ 0#8 → clear ≠ 1#8 →
      exec .stats s = .next (s.replied f rest [0x04#8])) ∧
    (clear = 0#8 →
      exec .stats s =
        .next (s.replied f rest
          (0x00#8 :: (s.chan c).stats.encode))) ∧
    (clear = 1#8 → s.Fresh f →
      exec .stats s =
        .next ((s.repliedCached f rest (0x00#8 :: (s.chan c).stats.encode)).modChan c
          fun k => { k with stats := resetStatistics })) ∧
    (∀ e ∈ s.link.cache, clear = 1#8 → (s.link.cache.map CacheEntry.tag).Nodup →
      e.tag = f.tag → e.kind = f.kind → e.channel = f.channel → e.check = f.check →
      exec .stats s = .next (s.replied f rest e.body))) ∧
  (∀ x : Statistics,
    x.encode.length = 60 ∧
    ∀ i n, x.inOrder[i]? = some n → field x.encode (4 * i) 4 = n % 4294967296)

/-! ### Rates, configuration, profiles -/

/-- R4: SET_RATES writes the sixteen entries when each is 0 or 300..3,000,000, and otherwise is
refused and changes nothing; nothing else changes, not even a working profile or a running trial. -/
def Obligations.SetRatesReplacesTheTableWhole : Prop :=
  ∀ (s : State) (f : Frame) (rest : List Frame) (rates : Vector Nat 16),
    (∀ r ∈ rates.toList, r < 4294967296) → s.Fresh f →
    s.AskedDevice 0x03#8 (rates.toList.flatMap fun r => le 4 r) f rest →
    ((∀ r ∈ rates.toList, r = 0 ∨ (300 ≤ r ∧ r ≤ 3000000)) →
      exec .setRates s =
        .next { s.repliedCached f rest [0x00#8] with rates := rates }) ∧
    ((∃ r ∈ rates.toList, r ≠ 0 ∧ (r < 300 ∨ 3000000 < r)) →
      exec .setRates s = .next (s.repliedCached f rest [0x04#8]))

/-- R157: a CONFIGURE with a field outside its range, a failed cross-check or an unlisted code is
refused with BAD_VALUE and changes nothing. -/
def Obligations.IllegalConfigurationIsRefused : Prop :=
  ∀ (s : State) (c : Channel) (b : List Byte) (f : Frame) (rest : List Frame),
    s.Asked c 0x05#8 b f rest → b.length = 29 → s.Fresh f →
    ((∃ k : ChannelConfig, k.Fits ∧ b = k.encode ∧ k.valid = false) ∨
      1 < field b 0 1 ∨ 1 < field b 25 1 ∨ 1 < field b 26 1) →
    exec .configure s = .next (s.repliedCached f rest [0x04#8])

/-- R73, R120, R122, R158: a legal CONFIGURE. A change pending in the glitch filter that has by
now persisted for the new glitch limit is accepted first, as the filtered edge, under the new
record. With no such change, a record that keeps the mode is written, the fill state set from the
new marks and HOLD from the new settings, FILL posted for a crossing, and nothing else changes. -/
def Obligations.ConfigureWritesTheRecord : Prop :=
  ∀ (s : State) (c : Channel) (k : ChannelConfig) (f : Frame) (rest : List Frame),
    s.Asked c 0x05#8 k.encode f rest → k.valid = true → s.Fresh f →
    let old := (s.chan c).config
    let held := (s.chan c).store.held
    let fill : Fill :=
      if k.highMark ≤ held then .high else if held ≤ k.lowMark then .low
      else (s.chan c).store.fill
    let hold : Bool := k.holdEnable && decide (k.mode = .listen) && decide (fill = .high)
    let posted : NoticeUnit :=
      if fill = (s.chan c).store.fill then s.notices else (s.postChan c .fill (.fill 1)).notices
    (∀ d, (s.chan c).sampler.pendingChange = some d → d + k.glitchLimit ≤ s.time.ticks →
      ∃ u, exec (.filteredEdge c) (s.modChan c fun ch => { ch with config := k }) = .next u ∧
        exec .configure s =
          exec .configure (u.modChan c fun ch => { ch with config := old })) ∧
    ((∀ d, (s.chan c).sampler.pendingChange = some d → s.time.ticks < d + k.glitchLimit) →
      (s.chan c).FillLaw → k.mode = old.mode →
      exec .configure s =
        .next { (s.repliedCached f rest [0x00#8]).modChan c (fun ch =>
            { ch with config := k, store := { ch.store with fill := fill, hold := hold } }) with
          notices := posted })

/-- R13, R15, R20, R72, R73, R76: CONFIGURE mode LISTEN on a channel in OFF enters QUIET with a
whole copy of the given profile, not confirmed, retry count 0 and an empty ring; the fill state
and HOLD follow the new settings, and FILL is posted for a crossing. A change that has by now
persisted for the new glitch limit is accepted, and nothing more comes of it in OFF. Nothing else
changes. -/
def Obligations.ListenEntersQuiet : Prop :=
  ∀ (s : State) (c : Channel) (k : ChannelConfig) (f : Frame) (rest : List Frame),
    s.Asked c 0x05#8 k.encode f rest → k.valid = true → s.Fresh f → (s.chan c).LockLaw →
    (s.chan c).config.mode = .off → k.mode = .listen →
    let p := (s.chan c).sampler
    let filtered (p : Sampler) : Sampler :=
      { p with
        accepted := if p.accepted = .low then .high else .low
        pendingChange := none }
    let fill : Fill :=
      if k.highMark ≤ (s.chan c).store.held then .high
      else if (s.chan c).store.held ≤ k.lowMark then .low else (s.chan c).store.fill
    let entered (q : Sampler) : State :=
      (s.repliedCached f rest [0x00#8]).modChan c fun ch =>
        { ch.copied s.rates with
          config := k
          ctl := { ch.ctl with lock := .quiet, retryCount := 0, gatherTimer := none }
          sampler := { q.captureCleared with quietReference := s.time.ticks }
          store :=
            { ch.store with
              fill := fill
              hold := k.holdEnable && decide (fill = .high) } }
    let posted (t : State) : State :=
      if fill = (s.chan c).store.fill then t else t.postChan c .fill (.fill 1)
    ((∀ d, p.pendingChange = some d → s.time.ticks < d + k.glitchLimit) →
      exec .configure s = .next (posted (entered p))) ∧
    (∀ d, p.pendingChange = some d → d + k.glitchLimit ≤ s.time.ticks →
      exec .configure s = .next (posted (entered (filtered p))))

/-- R21, R68, R99, R122: CONFIGURE mode OFF on a channel of mode LISTEN, with no change pending in
the glitch filter for as long as the new limit, undoes the state's work and enters OFF: a place in
the trial queue is given up, a trial abandoned (the unit then takes its next head), an open record
closed with cause HALT, every timer stopped, HOLD inactive, the fill state set from the new marks.
The retry count, the queue, the lease and, but for a framing update pending at the closure, the
working profile stand, and nothing else changes. It rests on the model's choices in
notes/assumptions/18.md. -/
def Obligations.ModeOffIsEntered : Prop :=
  ∀ (s : State) (c : Channel) (k : ChannelConfig) (f : Frame) (rest : List Frame),
    s.Asked c 0x05#8 k.encode f rest → k.valid = true → s.Fresh f → s.LockLaw →
    (s.chan c).config.mode = .listen → k.mode = .off →
    (∀ d, (s.chan c).sampler.pendingChange = some d → s.time.ticks < d + k.glitchLimit) →
    let fill : Fill :=
      if k.highMark ≤ (s.chan c).store.held then .high
      else if (s.chan c).store.held ≤ k.lowMark then .low else (s.chan c).store.fill
    let entered : State :=
      ((s.repliedCached f rest [0x00#8]).closing c .halt
        (BitVec.ofNat 32 (s.time.ticks / 48))).modChan c fun ch =>
          { ch.workUndone with
            config := k
            ctl := { ch.workUndone.ctl with lock := .off }
            sampler := ch.workUndone.sampler.captureCleared
            store := { ch.store with fill := fill, hold := false } }
    let posted : State :=
      if fill = (s.chan c).store.fill then entered else entered.postChan c .fill (.fill 1)
    ((s.chan c).ctl.lock ≠ .trial →
      exec .configure s = .next { posted with trial := s.trial.without c }) ∧
    (∀ tr, s.trial.service = some tr → tr.channel = c →
      ∃ u, exec .trialStart (posted.abandoned c tr) = .next u ∧ exec .configure s = .next u)

/-- R9, R10, R17, R104: SET_GIVEN. A block that fails a check is refused and changes nothing. A
legal one replaces the given profile; its framing is applied at once where the channel decodes
with no record open, waits where a record is open or a trial is ahead, and waits for the next copy
in OFF and FAILED. The response gives the pending flag. -/
def Obligations.SetGivenReplacesTheProfile : Prop :=
  (∀ (s : State) (c : Channel) (b : List Byte) (f : Frame) (rest : List Frame),
    s.Asked c 0x07#8 b f rest → b.length = 25 → s.Fresh f → givenBlockLegal b s.rates = false →
    exec .setGiven s = .next (s.repliedCached f rest [0x04#8])) ∧
  (∀ (s : State) (c : Channel) (g : GivenProfile) (f : Frame) (rest : List Frame),
    s.Asked c 0x07#8 g.encode f rest → g.valid = true → s.rates[g.line.rate.val] ≠ 0 →
    s.Fresh f →
    let k := s.chan c
    let w : WorkingProfile :=
      { k.working with
        framing := g.framing
        epoch := if k.working.framing = g.framing then k.working.epoch else k.working.epoch + 1 }
    (k.ctl.lock = .off ∨ k.ctl.lock = .failed →
      exec .setGiven s =
        .next ((s.repliedCached f rest [0x00#8, if k.pendingUpdate then 1#8 else 0#8]).modChan c
          fun k => { k with given := g })) ∧
    (k.ctl.lock = .quiet ∨ k.ctl.lock = .gather ∨ k.ctl.lock = .queued ∨ k.ctl.lock = .trial ∨
        ((k.ctl.lock = .locked ∨ k.ctl.lock = .degraded) ∧ k.openRecord? ≠ none) →
      exec .setGiven s =
        .next ((s.repliedCached f rest [0x00#8, 1#8]).modChan c
          fun k => { k with given := g, pendingUpdate := true })) ∧
    ((k.ctl.lock = .locked ∨ k.ctl.lock = .degraded) → k.openRecord? = none →
      exec .setGiven s =
        .next ((s.repliedCached f rest [0x00#8, 0#8]).modChan c
          fun k =>
            { k with
              given := g
              working := w
              pendingUpdate := false
              framer :=
                { k.framer with
                  gapTimer := if g.framing.gapLimit = 0 then none else k.framer.gapTimer
                  preamble :=
                    if k.working.framing.startChar ≠ none ∧ g.framing.startChar = none then 0
                    else k.framer.preamble } })) ∧
    (k.ctl.lock = .align →
      let aligning : State :=
        (s.repliedCached f rest [0x00#8, 0#8]).modChan c fun k =>
          { k with
            given := g
            working := w
            pendingUpdate := false
            framer := { k.framer with state := .aligning, gapTimer := none } }
      (¬(g.framing.mode = .length ∧ g.framing.gapLimit = 0) →
        exec .setGiven s = .next aligning) ∧
      (g.framing.mode = .length → g.framing.gapLimit = 0 →
        exec .setGiven s =
          .next ((aligning.modChan c fun k =>
            { k with
              framer := { k.framer with state := .between, preamble := 0 }
              ctl := { k.ctl with lock := .locked, retryCount := 0 } }).postChan c .locked
            (.locked w.epoch w.nominal w.line.format false)))))

/-- R23, R24, R31, R68, R99: ACQUIRE is refused with BAD_STATE in OFF and changes nothing. In any
other state it undoes the state's work (a queue place given up, a trial abandoned, after which the
unit takes its next head, an open record closed with cause HALT) and takes the channel to QUIET
with a whole copy of the given profile and retry count 0. Nothing else changes. It rests on the
model's choices in notes/assumptions/18.md. -/
def Obligations.AcquireReturnsToQuiet : Prop :=
  ∀ (s : State) (c : Channel) (f : Frame) (rest : List Frame),
    s.Asked c 0x09#8 [] f rest → s.Fresh f →
    ((s.chan c).ctl.lock = .off → exec .acquire s = .next (s.repliedCached f rest [0x05#8])) ∧
    (s.LockLaw → (s.chan c).ctl.lock ≠ .off →
      let entered : State :=
        ((s.repliedCached f rest [0x00#8]).closing c .halt
          (BitVec.ofNat 32 (s.time.ticks / 48))).modChan c fun k =>
            { k.workUndone.copied s.rates with
              ctl := { k.workUndone.ctl with lock := .quiet, retryCount := 0 }
              sampler :=
                { k.workUndone.sampler.captureCleared with quietReference := s.time.ticks } }
      ((s.chan c).ctl.lock ≠ .trial →
        exec .acquire s = .next { entered with trial := s.trial.without c }) ∧
      (∀ tr, s.trial.service = some tr → tr.channel = c →
        ∃ u, exec .trialStart (entered.abandoned c tr) = .next u ∧ exec .acquire s = .next u))

/-! ### The record store and the leases (R103, R117, R118, R126 to R136) -/

/-- R128, R129: TAKE. A value out of range is refused with BAD_VALUE, a channel that has a lease
with BUSY, an empty queue is answered EMPTY; otherwise the longest run from the queue's head that
max records and max bytes allow, the head whatever its length, moves into a lease under the next
lease id. R181: the descriptor of each granted record is 26 bytes, its fields at the rule's
offsets, the cause by its code. -/
def Obligations.TakeGrantsALease : Prop :=
  (∀ (s : State) (c : Channel) (maxRecords maxBytes : Nat) (f : Frame) (rest : List Frame),
    maxRecords < 256 → maxBytes < 65536 →
    s.Asked c 0x0D#8 (le 1 maxRecords ++ le 2 maxBytes) f rest → s.Fresh f →
    let valid : Prop := 1 ≤ maxRecords ∧ maxRecords ≤ 16 ∧ 1 ≤ maxBytes ∧ maxBytes ≤ 32768
    let st := (s.chan c).store
    (¬valid → exec .take s = .next (s.repliedCached f rest [0x04#8])) ∧
    (valid → st.lease ≠ none → exec .take s = .next (s.repliedCached f rest [0x02#8])) ∧
    (valid → st.lease = none → st.queue = [] →
      exec .take s = .next (s.repliedCached f rest [0x01#8])) ∧
    (∀ granted left : List Record, valid → st.lease = none → st.queue = granted ++ left →
      granted ≠ [] → granted.length ≤ maxRecords →
      (granted.length = 1 ∨ byteSum granted ≤ maxBytes) →
      (∀ r, left.head? = some r →
        granted.length = maxRecords ∨ maxBytes < byteSum granted + r.bytes.length) →
      exec .take s =
        .next { (s.repliedCached f rest
            (0x00#8 :: (le 2 s.leaseCounter ++ le 1 granted.length ++
              granted.flatMap Record.encode))).modStore c fun st =>
              { st with
                lease :=
                  some
                    { id := s.leaseCounter
                      records := granted
                      expiry := s.time.ticks + (s.chan c).config.leaseTimeoutMs * 48000 }
                queue := left } with
          leaseCounter := if 65535 ≤ s.leaseCounter then 1 else s.leaseCounter + 1 })) ∧
  (∀ r : Record, r.Described r.encode) ∧
  ([.delim, .gap, .length, .oversize, .brk, .close, .halt, .lockLoss, .dormant] : List Cause).map
    Cause.code = [0, 1, 2, 3, 4, 5, 6, 7, 8]

/-- R131: a FETCH or RELEASE whose id is not that of the channel's lease is answered STALE when
the id is the last expired one and NO_LEASE otherwise, and changes no state. -/
def Obligations.OtherLeaseIdsAreAnswered : Prop :=
  ∀ (s : State) (c : Channel) (id : Nat) (tail : List Byte) (f : Frame) (rest : List Frame),
    id < 65536 → (∀ l, (s.chan c).store.lease = some l → l.id ≠ id) →
    let code := if (s.chan c).store.lastExpired = some id then 0x09#8 else 0x08#8
    (s.Asked c 0x0E#8 (le 2 id ++ tail) f rest → tail.length = 5 →
      exec .fetch s = .next (s.replied f rest [code])) ∧
    (s.Asked c 0x0F#8 (le 2 id ++ tail) f rest → tail.length = 1 → s.Fresh f →
      exec .release s = .next (s.repliedCached f rest [code]))

/-- R130, R132, R133: FETCH on the channel's lease. An index, a length or an offset out of range
is refused with BAD_VALUE and changes nothing; otherwise the record's bytes from the offset are
answered, at most `length` of them, and the lease timer alone restarts. -/
def Obligations.FetchReturnsTheBytes : Prop :=
  ∀ (s : State) (c : Channel) (l : Lease) (index offset length : Nat) (f : Frame)
    (rest : List Frame),
    l.id < 65536 → index < 256 → offset < 65536 → length < 65536 →
    (s.chan c).store.lease = some l →
    s.Asked c 0x0E#8 (le 2 l.id ++ le 1 index ++ le 2 offset ++ le 2 length) f rest →
    (l.records.length ≤ index ∨ length < 1 ∨ 1024 < length →
      exec .fetch s = .next (s.replied f rest [0x04#8])) ∧
    (∀ r, l.records[index]? = some r →
      (r.bytes.length < offset ∨ (offset = r.bytes.length ∧ r.bytes.length ≠ 0) →
        exec .fetch s = .next (s.replied f rest [0x04#8])) ∧
      (1 ≤ length → length ≤ 1024 →
        (offset < r.bytes.length ∨ (offset = 0 ∧ r.bytes.length = 0)) →
        exec .fetch s =
          .next ((s.replied f rest
              (0x00#8 :: (le 2 (min length (r.bytes.length - offset)) ++
                (r.bytes.drop offset).take length))).modStore c fun st =>
              { st with
                lease :=
                  some
                    { l with
                      expiry :=
                        s.time.ticks + (s.chan c).config.leaseTimeoutMs * 48000 } })))

/-- R117, R118, R120, R134, R135: RELEASE frees the first `count` records of the lease and returns
the rest to the queue's head, their redelivery counts one more; a count above the lease's is
refused with BAD_VALUE. PURGE frees the whole queue and leaves the lease. The freed segments and
descriptors return to the pools, and the fill state is evaluated once. -/
def Obligations.FreedRecordsReturnToThePools : Prop :=
  ∀ (s : State) (c : Channel) (f : Frame) (rest : List Frame), s.Fresh f →
    let st := (s.chan c).store
    let fillAt (held : Nat) : Fill :=
      if (s.chan c).config.highMark ≤ held then .high
      else if held ≤ (s.chan c).config.lowMark then .low else st.fill
    let freed (t : State) (gone : List Record) (g : ChannelStore → ChannelStore) : State :=
      let held := st.held - segmentSum gone
      let fill := if gone = [] then st.fill else fillAt held
      let hold :=
        if fill = st.fill then st.hold
        else (s.chan c).config.holdEnable && decide ((s.chan c).config.mode = .listen) &&
          decide (fill = .high)
      let posted :=
        if fill = st.fill then s.notices else (s.postChan c .fill (.fill 1)).notices
      { t.modStore c (fun st => { g st with held := held, fill := fill, hold := hold }) with
        pools :=
          { s.pools with
            freeSegments := s.pools.freeSegments + segmentSum gone
            freeDescriptors := s.pools.freeDescriptors + gone.length }
        notices := posted }
    (∀ (l : Lease) (count : Nat), count < 256 → l.id < 65536 → st.lease = some l →
      s.Asked c 0x0F#8 (le 2 l.id ++ le 1 count) f rest →
      (l.records.length < count →
        exec .release s = .next (s.repliedCached f rest [0x04#8])) ∧
      (∀ gone kept, l.records = gone ++ kept → gone.length = count →
        exec .release s =
          .next (freed
            (s.repliedCached f rest
              [0x00#8, BitVec.ofNat 8 gone.length, BitVec.ofNat 8 kept.length])
            gone fun st =>
              { st with
                lease := none
                queue :=
                  (kept.map fun r => { r with redelivery := min 15 (r.redelivery + 1) }) ++
                    st.queue }))) ∧
    (s.Asked c 0x11#8 [] f rest →
      exec .purge s =
        .next (freed (s.repliedCached f rest (0x00#8 :: le 2 st.queue.length)) st.queue
          fun st => { st with queue := [] }))

/-- R99, R100, R103, R114, R115: CLOSE. With no record open it answers `no` and changes nothing.
An open record closes with cause CLOSE: an empty one returns its descriptor and posts nothing; one
with a descriptor takes the next seq, joins the queue's tail and posts READY; a dropped one takes
the next seq, is counted and posts DROPPED. A pending framing update is then applied. -/
def Obligations.CloseHandsTheRecordOver : Prop :=
  ∀ (s : State) (c : Channel) (f : Frame) (rest : List Frame),
    s.Asked c 0x10#8 [] f rest → s.Fresh f →
    let k := s.chan c
    let between (k : Chan) : Chan := { k with framer := { k.framer with state := .between } }
    let update (k : Chan) : Chan := if k.pendingUpdate then k.applyBetween else k
    (k.openRecord? = none →
      exec .close s = .next (s.repliedCached f rest [0x00#8, 0x00#8])) ∧
    (∀ r, k.openRecord? = some r →
      (r.bytes = [] → r.lost = 0 →
        exec .close s =
          .next { (s.repliedCached f rest [0x00#8, 0x01#8]).modChan c
              (fun k => update (between k)) with
            pools :=
              { s.pools with
                freeDescriptors :=
                  s.pools.freeDescriptors + (if r.hasDescriptor then 1 else 0) } }) ∧
      ((r.bytes ≠ [] ∨ r.lost ≠ 0) → r.hasDescriptor = true →
        exec .close s =
          .next { (s.repliedCached f rest [0x00#8, 0x01#8]).modChan c
              (fun k => update
                { between k with
                  store :=
                    { k.store with
                      nextSeq := k.store.nextSeq + 1
                      queue :=
                        k.store.queue ++
                          [r.closed c k.store.nextSeq .close
                            (BitVec.ofNat 32 (s.time.ticks / 48))] }
                  stats :=
                    { k.stats with
                      recordsClosed := min 4294967295 (k.stats.recordsClosed + 1)
                      bytesStored := min 4294967295 (k.stats.bytesStored + r.bytes.length)
                      bytesLost := min 4294967295 (k.stats.bytesLost + r.lost) } }) with
            notices := (s.postChan c .ready .ready).notices }) ∧
      ((r.bytes ≠ [] ∨ r.lost ≠ 0) → r.hasDescriptor = false →
        exec .close s =
          .next { (s.repliedCached f rest [0x00#8, 0x01#8]).modChan c
              (fun k => update
                { between k with
                  store :=
                    { k.store with
                      nextSeq := k.store.nextSeq + 1
                      lastDropped := some k.store.nextSeq }
                  stats :=
                    { k.stats with
                      recordsDropped := min 4294967295 (k.stats.recordsDropped + 1)
                      bytesLost := min 4294967295 (k.stats.bytesLost + r.lost) } }) with
            notices := (s.postChan c .dropped (.dropped 1)).notices }))

/-- R135, R136: a lease whose timer runs out ends; its records return to the queue's head with
their redelivery counts one more, its id is the last expired one, and EXPIRED is posted. It rests
on the model's choices in notes/assumptions/4.md. -/
def Obligations.ExpiredLeaseReturnsItsRecords : Prop :=
  ∀ (s : State) (c : Channel) (l : Lease),
    s.resetAsserted = false → (s.chan c).store.lease = some l →
    exec (.leaseExpiry c) s =
      .next (((s.advanceTo l.expiry).modStore c fun st =>
          { st with
            queue :=
              (l.records.map fun r => { r with redelivery := min 15 (r.redelivery + 1) }) ++
                st.queue
            lease := none
            lastExpired := some l.id }).postChan c .expired (.expired l.id l.records.length))

/-! ### Notices and outputs (R122, R143 to R150, R171) -/

/-- R148: CREDIT adds its byte to the credit, stopping at 255, and answers the credit after the
addition; a retransmission reads the first answer and adds nothing. -/
def Obligations.CreditIsAdded : Prop :=
  ∀ (s : State) (n : Byte) (f : Frame) (rest : List Frame),
    s.AskedDevice 0x12#8 [n] f rest →
    (s.Fresh f →
      exec .credit s =
        .next { s.repliedCached f rest
            [0x00#8, BitVec.ofNat 8 (min 255 (s.notices.credit + n.toNat))] with
          notices :=
            { s.notices with credit := min 255 (s.notices.credit + n.toNat) } }) ∧
    (∀ e ∈ s.link.cache, (s.link.cache.map CacheEntry.tag).Nodup →
      e.tag = f.tag → e.kind = f.kind → e.channel = f.channel → e.check = f.check →
      exec .credit s = .next (s.replied f rest e.body))

/-- R143, R145: a post to an idle slot makes it pending at the end of the order, with count 1 and
the post's time; a post to a pending slot raises its count, to 255 at most, and keeps its time and
place. The accumulators add and stop at 65535; the other values are replaced. It rests on the
model's choices in notes/assumptions/13.md. -/
def Obligations.PostMergesIntoItsSlot : Prop :=
  ∀ (s : State) (slot : Slot) (v : NoticeValues),
    ((∀ n ∈ s.notices.pending, n.slot ≠ slot) →
      s.post slot v =
        { s with notices :=
          { s.notices with pending :=
              s.notices.pending ++
                [{ slot := slot, postedAt := s.time.ticks / 48, count := 1, values := v }] } }) ∧
    (∀ before n behind, s.notices.pending = before ++ n :: behind → n.slot = slot →
      (∀ m ∈ before, m.slot ≠ slot) →
      ∃ w, s.post slot v =
        { s with notices :=
          { s.notices with pending :=
              before ++ { n with count := min 255 (n.count + 1), values := w } :: behind } } ∧
        (∀ a b d e a' b' d' e', n.values = .linkError a b d e → v = .linkError a' b' d' e' →
          w = .linkError (min 65535 (a + a')) (min 65535 (b + b')) (min 65535 (d + d'))
            (min 65535 (e + e'))) ∧
        (∀ a a', n.values = .pool a → v = .pool a' → w = .pool (min 65535 (a + a'))) ∧
        (∀ a a', n.values = .fill a → v = .fill a' → w = .fill (min 65535 (a + a'))) ∧
        (∀ a a', n.values = .dropped a → v = .dropped a' → w = .dropped (min 65535 (a + a'))) ∧
        ((∀ a b d e, v ≠ .linkError a b d e) → (∀ a, v ≠ .pool a) → (∀ a, v ≠ .fill a) →
          (∀ a, v ≠ .dropped a) → w = v))

/-- R146, R149, R150, R151, R177: at a frame boundary with no response waiting and credit, the
pending notice that is first by class, then by when it became pending, then by slot number is
sent: its frame carries the notice sequence number, which then rises by one, the credit falls by
one and its slot is idle. A UART starts the frame at once. In SPI the next byte clocked with SCS
low starts it, and is itself received as a UART would receive it, whatever the receiver's state.
R144, R151, R181: the notice's kind code, its channel, the lock state sent and the kind values of
each of the twelve kinds, read from the device as it stands when the notice is sent. It rests on
the model's choices in notes/assumptions/6.md, notes/assumptions/13.md, notes/assumptions/31.md. -/
def Obligations.FirstNoticeIsSent : Prop :=
  (∀ (s : State) (n : Notice),
    s.resetAsserted = false → s.link.transmit = none → s.link.restart ≠ .due →
    s.link.responses = [] → 1 ≤ s.notices.credit → n ∈ s.notices.pending →
    (∀ m ∈ s.notices.pending, m ≠ n →
      n.slot.rank < m.slot.rank ∨
        (n.slot.rank = m.slot.rank ∧
          (n.postedAt < m.postedAt ∨
            (n.postedAt = m.postedAt ∧ n.slot.number < m.slot.number)))) →
    let started (t : State) (clocked : Nat) (sdo : Byte) : State :=
      { t with
        notices :=
          { pending := s.notices.pending.filter fun m => decide (m.slot ≠ n.slot)
            credit := s.notices.credit - 1
            nextSeq := s.notices.nextSeq + 1 }
        link :=
          { s.link with
            sdo := sdo
            transmit :=
              some
                { frame :=
                    frameBytes 0xC0#8 0x00#8 n.slot.channelCode
                      ([BitVec.ofNat 8 n.slot.kindCode, n.slot.channelCode,
                          BitVec.ofNat 8 n.count, s.lockCodeFor n.slot] ++
                        le 2 s.notices.nextSeq.toNat ++ le 4 (n.postedAt % 4294967296) ++
                        s.kindValues n)
                  clocked := clocked
                  started := t.time.ticks } } }
    (s.link.selection ≠ .spi → exec .noticeSend s = .next (started s 0 s.link.sdo)) ∧
    (s.link.selection = .spi →
      exec .noticeSend s = .next s ∧
      ∀ (e : Nat) (b : Byte),
        let sent := started (s.advanceTo (s.time.ticks + e)) 1 0xA5#8
        ∃ u, exec (.receivedByte 0 b true)
            (sent.modLink fun l => { l with selection := .uart115200 }) = .next u ∧
          exec (.receivedByte e b true) s =
            .next (u.modLink fun l => { l with selection := .spi }))) ∧
  (∀ (s : State) (n : Notice),
    (∀ c kind, n.slot = .chan c kind →
      n.slot.channelCode = BitVec.ofNat 8 c.val ∧
      s.lockCodeFor n.slot = BitVec.ofNat 8 (s.chan c).ctl.lock.code ∧
      s.ChannelKindValues c n.values (s.kindValues n)) ∧
    (∀ kind, n.slot = .device kind →
      n.slot.channelCode = 0xFF#8 ∧ s.lockCodeFor n.slot = 0xFF#8 ∧
      s.DeviceKindValues n.values (s.kindValues n))) ∧
  (∀ c : Channel,
    [Slot.chan c .locked, .chan c .degraded, .chan c .released, .chan c .failed, .chan c .profile,
      .chan c .ready, .chan c .fill, .chan c .expired, .chan c .dropped, .device .started,
      .device .linkError, .device .pool].map Slot.kindCode =
      [0, 1, 2, 3, 4, 5, 6, 7, 8, 9, 10, 11])

/-- R122, R170, R171: the ATTN pin is low exactly while a response waits, a frame is being sent,
or a notice is pending with credit; a HOLD pin stands at the level of its sense and polarity; all
of them are high while RESET is asserted. It rests on the model's choices in
notes/assumptions/24.md, notes/assumptions/32.md. -/
def Obligations.OutputPinsFollowTheState : Prop :=
  ∀ (s : State) (c : Channel),
    (s.attnPin = .low ↔
      s.resetAsserted = false ∧
        (s.link.responses ≠ [] ∨ s.link.transmit ≠ none ∨
          (s.notices.pending ≠ [] ∧ 1 ≤ s.notices.credit))) ∧
    (s.resetAsserted = true → s.holdPin c = .high) ∧
    (s.resetAsserted = false → (s.chan c).config.holdPolarity = .activeHigh →
      (s.holdPin c = .high ↔ (s.chan c).store.hold = true)) ∧
    (s.resetAsserted = false → (s.chan c).config.holdPolarity = .activeLow →
      (s.holdPin c = .low ↔ (s.chan c).store.hold = true))

/-! ### Resets (R165 to R170, R178) -/

/-- R68, R125, R153, R166: RESET_CHANNEL takes the channel to QUIET or OFF by its mode, with a
whole copy of the given profile at epoch 0, its records, lease, counts and pending notices gone,
their segments and descriptors free; its queue place is given up, its trial abandoned, after which
the unit takes its next head. It keeps the configuration and the given profile, the filter and the
tracked period, the lease id counter, the credit and the device's counters. It rests on the
model's choices in notes/assumptions/18.md. -/
def Obligations.ResetChannelClearsTheChannel : Prop :=
  ∀ (s : State) (c : Channel) (f : Frame) (rest : List Frame),
    s.Asked c 0x13#8 [] f rest → s.Fresh f → s.LockLaw →
    let cleared (report : Option TrialReport) : State :=
      { (s.repliedCached f rest [0x00#8]).modChan c (fun k =>
          { k with
            working :=
              { line := k.given.line
                nominal := s.rates[k.given.line.rate.val]
                framing := k.given.framing
                confirmed := false
                epoch := 0 }
            pendingUpdate := false
            ctl :=
              { k.ctl with
                lock := if k.config.mode = .listen then .quiet else .off
                retryCount := 0
                windowChars := 0
                windowErrors := 0
                gatherTimer := none
                holdoverTimer := none
                dormantTimer := none
                report := report }
            sampler :=
              { k.sampler.captureCleared with
                decode := .stopped
                edges := []
                offsetCount := 0
                offsetSum := 0
                quietReference :=
                  if k.config.mode = .listen then s.time.ticks else k.sampler.quietReference }
            framer := { state := .idle, preamble := 0, gapTimer := none }
            store :=
              { queue := []
                held := 0
                nextSeq := 0
                lastDropped := none
                fill := .low
                hold := false
                lease := none
                lastExpired := none }
            stats := resetStatistics }) with
        pools :=
          { s.pools with
            freeSegments := s.pools.freeSegments + (s.chan c).store.held
            freeDescriptors := s.pools.freeDescriptors + (s.chan c).descriptorsHeld }
        notices :=
          { s.notices with
            pending := s.notices.pending.filter fun n => !n.slot.ofChannel c } }
    ((s.chan c).ctl.lock ≠ .trial →
      exec .resetChannel s =
        .next { cleared (s.chan c).ctl.report with trial := s.trial.without c }) ∧
    (∀ tr, s.trial.service = some tr → tr.channel = c →
      ∃ u, exec .trialStart
          { cleared (some (tr.abandonedReport s.time.ticks)) with
            trial := { s.trial with service := none } } = .next u ∧
        exec .resetChannel s = .next u) ∧
    resetStatistics.encode = List.replicate 60 0#8

/-- R168, R169, R178: RESTART is answered OK, not cached, discards the inbox behind it and stops
dispatch. Once its response has been sent whole, the soft restart resets every channel, the Trial
Unit, the pools, the lease id counter, the link's queues and cache and the notice table, posts
STARTED (SOFT), and keeps configurations, given profiles, rates and the Time Base. It rests on the
model's choices in notes/assumptions/16.md. -/
def Obligations.RestartResetsTheDevice : Prop :=
  (∀ (s : State) (f : Frame) (rest : List Frame), s.AskedDevice 0x14#8 [] f rest →
    exec .restart s =
      .next { s with link :=
        { s.link with
          inbox := []
          responses := s.link.responses ++ [responseTo f [0x00#8]]
          restart := .awaiting } }) ∧
  (∀ s : State, s.resetAsserted = false → s.link.restart = .due →
    ∃ t, exec .softRestart s = .next t ∧
      t =
        { s with
          chans := t.chans
          trial := { service := none, queue := [] }
          pools :=
            { freeSegments := 512
              freeDescriptors := 256
              capRefusals := 0
              poolRefusals := 0
              descriptorRefusals := 0 }
          leaseCounter := 1
          notices :=
            { pending :=
                [{ slot := .device .started
                   postedAt := s.time.ticks / 48
                   count := 1
                   values := .started .soft 3 }]
              credit := 1
              nextSeq := 0 }
          link :=
            { s.link with
              receiver := { s.link.receiver with state := .hunt, buffer := [] }
              inbox := []
              responses := []
              cache := []
              restart := .idle } } ∧
      (∀ c,
        let k := s.chan c
        t.chan c =
          { config := k.config
            given := k.given
            working :=
              { line := k.given.line
                nominal := s.rates[k.given.line.rate.val]
                framing := k.given.framing
                confirmed := false
                epoch := 0 }
            pendingUpdate := false
            ctl :=
              { k.ctl with
                lock := if k.config.mode = .listen then .quiet else .off
                retryCount := 0
                windowChars := 0
                windowErrors := 0
                gatherTimer := none
                holdoverTimer := none
                dormantTimer := none
                report := (t.chan c).ctl.report }
            sampler :=
              { k.sampler.captureCleared with
                decode := .stopped
                edges := []
                offsetCount := 0
                offsetSum := 0
                quietReference :=
                  if k.config.mode = .listen then s.time.ticks else k.sampler.quietReference }
            framer := { state := .idle, preamble := 0, gapTimer := none }
            store :=
              { queue := []
                held := 0
                nextSeq := 0
                lastDropped := none
                fill := .low
                hold := false
                lease := none
                lastExpired := none }
            stats := resetStatistics } ∧
        (s.inService c = false → (t.chan c).ctl.report = k.ctl.report) ∧
        (∀ tr, s.trial.service = some tr → tr.channel = c →
          (t.chan c).ctl.report = some (tr.abandonedReport s.time.ticks))))

/-- R71, R154, R170, R171: a hardware reset leaves every state at its reset value with RESET
asserted; RESET deasserted, the straps select the link, each filter takes the level at which its
line then stands, wherever the lines have moved meanwhile, and STARTED is pending with the reason.
With RESET not asserted its deassertion changes nothing. It rests on the model's choices in
notes/assumptions/15.md, notes/assumptions/19.md. -/
def Obligations.HardwareResetRestoresTheDevice : Prop :=
  ∀ (s : State) (cause : ResetCause) (lsel1 lsel0 : Bool) (moved : Vector Level 8),
    let reason : StartReason := if cause = .power then .power else .pin
    let started : NoticeUnit :=
      { pending :=
          [{ slot := .device .started, postedAt := 0, count := 1, values := .started reason 3 }]
        credit := 1
        nextSeq := 0 }
    let selection : LinkSelection :=
      if lsel1 then (if lsel0 then .spi else .uart3000000)
      else (if lsel0 then .uart921600 else .uart115200)
    let fresh : State :=
      { State.reset with
        resetCause := cause
        lineIn := s.lineIn
        chans := resetChans s.lineIn
        notices := started
        pending := s.pending }
    let asserted : State :=
      { fresh with
        resetAsserted := true
        link := { State.reset.link with selection := s.link.selection } }
    exec (.hardwareReset cause) s = .next asserted ∧
    exec (.resetDeasserted lsel1 lsel0) { asserted with lineIn := moved } =
      .next { fresh with
        lineIn := moved
        chans := resetChans moved
        link := { State.reset.link with selection := selection } } ∧
    (s.resetAsserted = false → exec (.resetDeasserted lsel1 lsel0) s = .next s)

/-! ### The host link (R171 to R173, R177) -/

/-- R171, R172, R177, R178: each byte received by a UART moves the receiver by its state. In SPI a
byte clocked with SCS high is ignored. One clocked with SCS low is received as a UART would
receive it, and shifts one byte out on SDO: the next byte of the frame being sent, the first of
the response that waits, which then leaves its queue, or 00h when nothing waits. A frame that has
been clocked whole is over before the byte is looked at. A byte that finds a frame complete, or
over-long, or more than 20 ms old since its last byte, comes after that frame has been finished as
FRAME_RECEIVED, LENGTH_DISCARD or RECEIVE_TIMEOUT finishes it, and is then received in HUNT. It
rests on the model's choices in notes/assumptions/4.md, notes/assumptions/6.md,
notes/assumptions/8.md, notes/assumptions/9.md, notes/assumptions/31.md, notes/assumptions/32.md. -/
def Obligations.ReceiverFollowsTheBytes : Prop :=
  ∀ (s : State) (e : Nat) (b : Byte) (scsLow : Bool),
    s.resetAsserted = false →
    let r := s.link.receiver
    let now := s.time.ticks + e
    let goes (r' : Receiver) : Prop :=
      exec (.receivedByte e b scsLow) s =
        .next ((s.advanceTo now).modLink fun l => { l with receiver := r' })
    (s.link.selection = .spi → scsLow = false →
      exec (.receivedByte e b scsLow) s = .next (s.advanceTo now)) ∧
    (s.link.selection = .spi → scsLow = true →
      let clocks (transmit : Option Transmit) (responses : List Response) (sdo : Byte) : Prop :=
        ∃ u, exec (.receivedByte e b scsLow)
            (s.modLink fun l => { l with selection := .uart115200 }) = .next u ∧
          exec (.receivedByte e b scsLow) s =
            .next (u.modLink fun l =>
              { l with
                selection := .spi
                transmit := transmit
                responses := responses
                sdo := sdo })
      (∀ f, s.link.transmit = some f → f.clocked < f.frame.length →
        clocks (some { f with clocked := f.clocked + 1 }) s.link.responses
          (f.frame.getD f.clocked 0#8)) ∧
      (∀ f, s.link.transmit = some f → f.frame.length ≤ f.clocked →
        ∃ u, exec .frameSentWhole (s.advanceTo now) = .next u ∧
          exec (.receivedByte e b scsLow) s = exec (.receivedByte 0 b scsLow) u) ∧
      (∀ h more, s.link.transmit = none → s.link.restart ≠ .due → s.link.responses = h :: more →
        clocks
          (some
            { frame := frameBytes h.kind h.tag h.channel h.body
              clocked := 1
              started := (s.advanceTo now).time.ticks })
          more 0xA5#8) ∧
      (s.link.transmit = none →
        s.link.restart = .due ∨
          (s.link.responses = [] ∧ (s.notices.pending = [] ∨ s.notices.credit = 0)) →
        clocks none s.link.responses 0x00#8)) ∧
    (s.link.selection ≠ .spi →
      let finishedBy (i : Instr) : Prop :=
        ∃ u, exec i (s.advanceTo now) = .next u ∧
          u.link.receiver.state = .hunt ∧ u.time.ticks = now ∧
          exec (.receivedByte e b scsLow) s = exec (.receivedByte 0 b scsLow) u
      (r.complete = true → finishedBy .frameReceived) ∧
      (r.overLong = true → finishedBy .lengthDiscard) ∧
      (r.state = .header ∨ r.state = .body ∨ r.state = .check → r.complete = false →
        r.overLong = false → r.lastByte + 960000 < now → finishedBy .receiveTimeout)) ∧
    (s.link.selection ≠ .spi → r.state = .hunt →
      goes (if b = 0xA5#8 then { r with state := .sync2, buffer := [] } else r)) ∧
    (s.link.selection ≠ .spi → r.state = .sync2 →
      goes
        (if b = 0x5A#8 then { state := .header, buffer := [], lastByte := now }
          else if b = 0xA5#8 then r
          else { r with state := .hunt, buffer := [] })) ∧
    (s.link.selection ≠ .spi → now ≤ r.lastByte + 960000 → r.overLong = false →
      r.complete = false →
      (r.state = .header → r.buffer.length < 4 →
        goes { state := .header, buffer := r.buffer ++ [b], lastByte := now }) ∧
      (r.state = .header → r.buffer.length = 4 →
        goes
          { state := if field r.buffer 0 2 = 0 then .check else .body
            buffer := r.buffer ++ [b]
            lastByte := now }) ∧
      (r.state = .body → 2 ≤ r.buffer.length →
        goes
          { state := if 5 + field r.buffer 0 2 ≤ r.buffer.length + 1 then .check else .body
            buffer := r.buffer ++ [b]
            lastByte := now }) ∧
      (r.state = .check →
        goes { state := .check, buffer := r.buffer ++ [b], lastByte := now }))

/-- R172, R173: a complete frame whose check matches enters the inbox, or is discarded as OVERRUN
when it holds four; a mismatch is discarded as CRC, a length above 1088 as LENGTH, and more than
20 ms between two bytes of a frame as TIMEOUT. Each discard posts its count to LINK_ERROR, and the
receiver is in HUNT. It rests on the model's choices in notes/assumptions/4.md,
notes/assumptions/8.md. -/
def Obligations.ReceivedFramesAreChecked : Prop :=
  ∀ s : State, s.resetAsserted = false →
    let r := s.link.receiver
    let resting (l : HostLink) : HostLink :=
      { l with receiver := { l.receiver with state := .hunt, buffer := [] } }
    let counted (t : State) (v : NoticeValues) : State :=
      if s.link.restart = .idle then (t.modLink resting).post (.device .linkError) v
      else t.modLink resting
    (∀ (kind tag channel : Byte) (body : List Byte) (hi lo : Byte),
      r.state = .check → body.length ≤ 1088 →
      r.buffer = coveredBytes kind tag channel body ++ [hi, lo] →
      let sound : Prop := hi ++ lo = crc16 (coveredBytes kind tag channel body)
      (s.link.restart ≠ .idle → exec .frameReceived s = .next (s.modLink resting)) ∧
      (s.link.restart = .idle → sound → s.link.inbox.length < 4 →
        exec .frameReceived s =
          .next (s.modLink fun l =>
            { resting l with
              inbox := l.inbox ++
                [{ kind := kind, tag := tag, channel := channel, body := body,
                   check := hi ++ lo }] })) ∧
      (s.link.restart = .idle → sound → 4 ≤ s.link.inbox.length →
        exec .frameReceived s = .next (counted s (.linkError 0 0 0 1))) ∧
      (¬sound → exec .frameReceived s = .next (counted s (.linkError 1 0 0 0)))) ∧
    (∀ lo hi : Byte, r.state = .header → r.buffer = [lo, hi] → 1088 < lo.toNat + 256 * hi.toNat →
      exec .lengthDiscard s = .next (counted s (.linkError 0 1 0 0))) ∧
    (r.state = .header ∨ r.state = .body ∨ r.state = .check → r.overLong = false →
      r.complete = false →
      exec .receiveTimeout s =
        .next (counted (s.advanceTo (r.lastByte + 960001)) (.linkError 0 0 1 0)))

/-- R175, R177, R178: at a frame boundary the head of the response queue is sent, and a notice
waits; a started frame is sent whole before anything else is sent; when a UART's frame ends the
next response starts, and when the RESTART response has ended the restart is due. An SPI frame
ends once the host has clocked all of it. It rests on the model's choices in
notes/assumptions/6.md, notes/assumptions/17.md, notes/assumptions/28.md, notes/assumptions/32.md.
-/
def Obligations.ResponsesAreSentInOrder : Prop :=
  ∀ s : State, s.resetAsserted = false →
    let started (t : State) (r : Response) (more : List Response) : State :=
      t.modLink fun l =>
        { l with
          responses := more
          transmit :=
            some
              { frame := frameBytes r.kind r.tag r.channel r.body
                clocked := 0
                started := t.time.ticks } }
    (∀ r more, s.link.responses = r :: more →
      (s.link.transmit = none → s.link.restart ≠ .due → s.link.selection ≠ .spi →
        exec .responseSend s = .next (started s r more)) ∧
      exec .noticeSend s = .next s) ∧
    (s.link.selection = .spi →
      exec .responseSend s = .next s ∧ exec .noticeSend s = .next s) ∧
    (s.link.transmit ≠ none →
      exec .responseSend s = .next s ∧ exec .noticeSend s = .next s) ∧
    (∀ t rate, s.link.transmit = some t → s.link.selection.bitRate = some rate →
      let ended := s.advanceTo (t.sentTick rate)
      (s.link.restart = .awaiting → s.link.responses = [] →
        exec .frameSentWhole s =
          .next (ended.modLink fun l => { l with transmit := none, restart := .due })) ∧
      (∀ r more, s.link.responses = r :: more → s.link.restart ≠ .due →
        exec .frameSentWhole s = .next (started ended r more)) ∧
      (s.link.restart = .idle → s.link.responses = [] →
        (s.notices.pending = [] ∨ s.notices.credit = 0) →
        exec .frameSentWhole s = .next (ended.modLink fun l => { l with transmit := none })) ∧
      (s.link.restart = .idle → s.link.responses = [] →
        s.notices.pending ≠ [] → 1 ≤ s.notices.credit →
        ∃ u, exec .noticeSend (ended.modLink fun l => { l with transmit := none }) = .next u ∧
          u.link.transmit ≠ none ∧ exec .frameSentWhole s = .next u)) ∧
    (∀ t, s.link.transmit = some t → s.link.selection = .spi →
      (t.frame.length ≤ t.clocked → s.link.restart ≠ .awaiting ∨ s.link.responses ≠ [] →
        exec .frameSentWhole s = .next (s.modLink fun l => { l with transmit := none })) ∧
      (t.frame.length ≤ t.clocked → s.link.restart = .awaiting → s.link.responses = [] →
        exec .frameSentWhole s =
          .next (s.modLink fun l => { l with transmit := none, restart := .due })) ∧
      (t.clocked < t.frame.length → exec .frameSentWhole s = .next s))

/-! ### Time, lines and gathering (R25 to R27, R70, R72 to R76) -/

/-- R70: when the counter passes from its greatest value to 0 the wrap count rises by one; nothing
but the Time Base changes. It rests on the model's choices in notes/assumptions/4.md. -/
def Obligations.CounterWrapRaisesTheWrapCount : Prop :=
  ∀ s : State, s.resetAsserted = false →
    ∃ t, exec .timeWrap s = .next t ∧ t = { s with time := t.time } ∧
      t.time.counter = 0 ∧ t.time.wraps = s.time.wraps + 1 ∧ s.time.ticks < t.time.ticks ∧
      t.time.ticks % 48 = 0 ∧ (s.TimeLaw → t.TimeLaw)

/-- R72: the raw input of a channel changes level. With no change pending, a difference from the
accepted level opens one, dated at this tick; an input back at the accepted level before the
glitch limit drops the pending change; a change that has persisted for the glitch limit by then is
accepted first, as the filtered edge. R170: while RESET is asserted the device decodes no line,
and the pin moves alone. It rests on the model's choices in notes/assumptions/4.md,
notes/assumptions/9.md, notes/assumptions/15.md, notes/assumptions/30.md. -/
def Obligations.GlitchFilterFollowsTheInput : Prop :=
  ∀ (s : State) (c : Channel) (e : Nat),
    let level : Level := if s.lineIn[c.val] = .low then .high else .low
    let now := s.time.ticks + e
    let seen (t : State) : State :=
      { t.modSampler c (fun p =>
          { p with pendingChange := if level = p.accepted then none else some now }) with
        lineIn := s.lineIn.set c.val level }
    (s.resetAsserted = true →
      exec (.lineInputChange c e) s = .next { s with lineIn := s.lineIn.set c.val level }) ∧
    (s.resetAsserted = false → (s.chan c).sampler.pendingChange = none →
      exec (.lineInputChange c e) s = .next (seen (s.advanceTo now))) ∧
    (∀ d, s.resetAsserted = false → (s.chan c).sampler.pendingChange = some d →
      (now < d + (s.chan c).config.glitchLimit →
        exec (.lineInputChange c e) s = .next (seen (s.advanceTo now))) ∧
      (d + (s.chan c).config.glitchLimit ≤ now →
        ∃ u, exec (.filteredEdge c) s = .next u ∧
          exec (.lineInputChange c e) s = .next (seen (u.advanceTo now))))

/-- R25, R26, R27, R44, R72, R74, R75, R78: a filtered edge is dated at the tick its change began
and taken the glitch limit later. In OFF, FAILED, QUEUED and TRIAL the filter alone follows; in
QUIET it starts a gather, in GATHER it is the next capture entry and at the gather target takes
the channel to QUEUED at the queue's tail; a decoding channel has its dormant timer restarted, and
its sampler takes a start edge in HUNT (an edge to space, dated after the hunt began) or the
return to mark in WAIT_MARK, and otherwise keeps its decode state. The gather-quiet timer's expiry
completes a gather of at least 32 edges, and stops otherwise. It rests on the model's choices in
notes/assumptions/4.md, notes/assumptions/5.md, notes/assumptions/12.md. -/
def Obligations.EdgesAreUsedByLockState : Prop :=
  ∀ (s : State) (c : Channel), s.resetAsserted = false →
    let k := s.chan c
    let level : Level := if k.sampler.accepted = .low then .high else .low
    let joined (t : State) : State :=
      { t with trial := { t.trial with queue := t.trial.queue ++ [c] } }
    (∀ d, k.sampler.pendingChange = some d →
      let at_ := s.advanceTo (d + k.config.glitchLimit)
      let filter (p : Sampler) : Sampler := { p with accepted := level, pendingChange := none }
      (k.ctl.lock = .off ∨ k.ctl.lock = .failed ∨ k.ctl.lock = .queued ∨ k.ctl.lock = .trial →
        exec (.filteredEdge c) s = .next (at_.modSampler c filter)) ∧
      (k.ctl.lock = .quiet →
        exec (.filteredEdge c) s =
          .next (at_.modChan c fun k =>
            { k with
              sampler :=
                { filter k.sampler with
                  ring :=
                    [{ level := level
                       interval := min 16777215 (d - k.sampler.quietReference) }]
                  lastCapture := some d
                  idleLevel := k.sampler.accepted }
              ctl :=
                { k.ctl with
                  lock := .gather
                  gatherTarget := k.config.gatherTarget
                  gatherQuietMs := k.config.gatherQuietMs
                  gatherTimer := some (at_.time.ticks + k.config.gatherQuietMs * 48000) } })) ∧
      (∀ last, k.ctl.lock = .gather → k.sampler.lastCapture = some last →
        let stored (k : Chan) (lock : LockState) (timer : Option Nat) : Chan :=
          { k with
            sampler :=
              { filter k.sampler with
                ring :=
                  k.sampler.ring ++ [{ level := level, interval := min 16777215 (d - last) }]
                lastCapture := some d }
            ctl := { k.ctl with lock := lock, gatherTimer := timer } }
        (k.sampler.ring.length + 1 < k.ctl.gatherTarget →
          exec (.filteredEdge c) s =
            .next (at_.modChan c fun k =>
              stored k .gather (some (at_.time.ticks + k.ctl.gatherQuietMs * 48000)))) ∧
        (k.ctl.gatherTarget ≤ k.sampler.ring.length + 1 →
          exec (.filteredEdge c) s =
            .next (joined (at_.modChan c fun k => stored k .queued none)))) ∧
      (k.ctl.lock = .align ∨ k.ctl.lock = .locked ∨ k.ctl.lock = .degraded →
        let used (decode : Decode) (edges : List Edge) : State :=
          at_.modChan c fun k =>
            { k with
              sampler := { filter k.sampler with decode := decode, edges := edges }
              ctl :=
                { k.ctl with
                  dormantTimer :=
                    if k.config.dormantS = 0 then none
                    else some (at_.time.ticks + k.config.dormantS * 48000000) } }
        let pol := k.working.line.polarity
        (∀ since, k.sampler.decode = .hunt since → k.sampler.edges = [] →
          exec (.filteredEdge c) s =
            .next
              (if level = pol.space ∧ since < d then used (.sampling d k.sampler.trackedPeriod) []
                else used (.hunt since) [])) ∧
        (∀ t per, k.sampler.decode = .sampling t per ∨ k.sampler.decode = .spaceHeld t per →
          exec (.filteredEdge c) s =
            .next (used k.sampler.decode
              (k.sampler.edges ++ [{ tick := d, level := level }]))) ∧
        (∀ since, k.sampler.decode = .waitMark since → k.sampler.edges = [] →
          exec (.filteredEdge c) s =
            .next
              (if level = pol.mark ∧ since ≤ d then used (.hunt d) []
                else used (.waitMark since) [])))) ∧
    (∀ x, k.ctl.lock = .gather → k.ctl.gatherTimer = some x →
      (32 ≤ k.sampler.ring.length →
        exec (.gatherQuietExpiry c) s =
          .next (joined ((s.advanceTo x).modCtl c fun d =>
            { d with lock := .queued, gatherTimer := none }))) ∧
      (k.sampler.ring.length < 32 →
        exec (.gatherQuietExpiry c) s =
          .next ((s.advanceTo x).modCtl c fun d => { d with gatherTimer := none })))

/-! ### Trials (R29, R30, R49 to R66) -/

/-- R54, R55: the estimate comes from the intervals of the ring after the first entry, less the
saturated ones: the smallest of them that has at least three, itself included, within the
tolerance above it is the base, and 48,000,000 over the mean of those is the rate, to the nearest.
With no such interval the estimate fails. It rests on the model's choices in
notes/assumptions/26.md. -/
def Obligations.RateEstimateIsTheFirstCluster : Prop :=
  ∀ (tolerance : Nat) (ring : List CaptureEntry),
    let usable := ((ring.drop 1).map CaptureEntry.interval).filter fun w => decide (w < 16777215)
    let cluster (w : Nat) : List Nat :=
      usable.filter fun x => decide (w ≤ x ∧ x * 100 ≤ w * (100 + tolerance))
    (∀ e ∈ ring, e.interval ≤ 16777215) →
    ((∀ w ∈ usable, (cluster w).length < 3) → estimateRate tolerance ring = none) ∧
    (∀ w ∈ usable, 3 ≤ (cluster w).length → 0 < (cluster w).sum →
      (∀ x ∈ usable, x < w → (cluster x).length < 3) →
      ∃ rate, estimateRate tolerance ring = some rate ∧
        (2 * rate - 1) * (cluster w).sum ≤ 2 * 48000000 * (cluster w).length ∧
        2 * 48000000 * (cluster w).length < (2 * rate + 1) * (cluster w).sum)

/-- R6, R8, R49, R51, R53, R56 to R65: the free unit takes the head of the queue into TRIAL with
its copies; the estimate gives the candidate list, or ends the trial when nothing is left to try;
each evaluation raises the position by one and ends the trial with FIT, with NO_FIT (NO_RATE where
no estimate was made) at the list's end, or with BUDGET. The list holds the verify-first candidate
first, then the permitted and eligible candidates but for an equal one, ordered by nearness of the
rate, rate index, polarity and format. A candidate fits when its evaluation counts the minimum of
characters and none is errored. The evaluation reads the snapshot as the line it records: it skips
a break, goes on after a false start, reads a character at the middle of its bits, and ends where
a character would run beyond the last edge. It rests on the model's choices in
notes/assumptions/5.md, notes/assumptions/29.md. -/
def Obligations.TrialPhasesFollowTheirOrder : Prop :=
  (∀ s : State, s.resetAsserted = false →
    (∀ c rest, s.trial.service = none → s.trial.queue = c :: rest →
      let k := s.chan c
      exec .trialStart s =
        .next { s.modCtl c (fun d => { d with lock := .trial }) with
          trial :=
            { service :=
                some
                  { channel := c
                    snapshot :=
                      { ring := k.sampler.ring
                        idleLevel := k.sampler.idleLevel
                        rates := s.rates
                        given := k.given.line
                        search := k.given.search
                        verifyFirst :=
                          if k.working.confirmed then
                            some { line := k.working.line, nominal := k.working.nominal }
                          else none
                        tolerance := k.config.tolerance
                        minCharacters := k.config.minCharacters
                        candidateBudget := k.config.candidateBudget }
                    estimate := none
                    candidates := none
                    position := 0
                    verdict := none }
              queue := rest } }) ∧
    (∀ t, s.trial.service = some t → t.candidates = none → t.verdict = none →
      let estimate := estimateRate t.snapshot.tolerance t.snapshot.ring
      let list := candidateList t.snapshot estimate
      exec .rateEstimate s =
        .next (s.setTrial
          { t with
            estimate := estimate
            candidates := if list = [] ∧ estimate = none then none else some list
            verdict :=
              if list ≠ [] then none
              else if estimate = none then some { outcome := .noRate, chosen := none }
              else some { outcome := .noCandidate, chosen := none } })) ∧
    (∀ t list x, s.trial.service = some t → t.candidates = some list → t.verdict = none →
      list[t.position]? = some x →
      let finished := t.position + 1
      exec .candidateEvaluated s =
        .next (s.setTrial
          { t with
            position := finished
            verdict :=
              if fits t.snapshot x then some { outcome := .fit, chosen := some x }
              else if list.length ≤ finished then
                some
                  { outcome := if t.estimate = none then .noRate else .noFit
                    chosen := none }
              else if t.snapshot.candidateBudget ≤ finished then
                some { outcome := .budget, chosen := none }
              else none }))) ∧
  (∀ (n : Snapshot) (estimate : Option Nat),
    let first := n.verifyFirst.toList
    let list := candidateList n estimate
    let built := list.drop first.length
    list.take first.length = first ∧
    (estimate = none → built = []) ∧
    (∀ r, estimate = some r → n.given.valid = true →
      (∀ x : Candidate,
        x ∈ built ↔
          n.EligibleRate r x.line.rate ∧ x.nominal = n.rates[x.line.rate.val] ∧
          (n.search.polaritySearch = true ∨ x.line.polarity = n.given.polarity) ∧
          n.PermitsFormat x.line.format ∧ n.verifyFirst ≠ some x) ∧
      built.Pairwise (n.Ahead r))) ∧
  (∀ (n : Snapshot) (x : Candidate),
    let edges := placeEdges 0 n.ring
    let span := (edges.getLast?.map Edge.tick).getD 0
    let tested :=
      evaluateFrom x span edges { base := 0, halves := 0, anyEdge := true } 0 false
    (fits n x = true ↔ n.minCharacters ≤ tested.1 ∧ tested.2 = false) ∧
    edges.map Edge.level = n.ring.map CaptureEntry.level ∧
    (∀ i : Nat, i < edges.length →
      edges[i]?.map Edge.tick = some (((n.ring.drop 1).take i).map CaptureEntry.interval).sum)) ∧
  (∀ (x : Candidate) (span count : Nat) (bad : Bool) (h : HuntPoint),
    let read (edges : List Edge) (h : HuntPoint) := evaluateFrom x span edges h
    let cb := x.line.format.charBits
    let space := x.line.polarity.space
    let second := 48000000
    0 < x.nominal →
    (∀ t : Nat,
      (h.admits x.nominal t = true ↔
        h.anyEdge = true ∨
          (h.base < t ∧ h.halves * second < 2 * (t - h.base) * x.nominal))) ∧
    read [] h count bad = (count, bad) ∧
    (∀ (e : Edge) (rest : List Edge), e.level ≠ space ∨ h.admits x.nominal e.tick = false →
      read (e :: rest) h count bad = read rest h count bad) ∧
    (∀ (e : Edge), read [e] h count bad = (count, bad)) ∧
    (∀ (e next : Edge) (rest : List Edge), e.level = space → h.admits x.nominal e.tick = true →
      e.tick ≤ next.tick → (∀ y ∈ rest, next.tick ≤ y.tick) →
      let run := next.tick - e.tick
      ((cb + 1) * second ≤ run * x.nominal →
        read (e :: next :: rest) h count bad =
          read (next :: rest) { base := next.tick, halves := 0, anyEdge := false } count bad) ∧
      (2 * run * x.nominal ≤ second → next.level ≠ space →
        (∀ y ∈ rest, second < 2 * (y.tick - e.tick) * x.nominal) →
        read (e :: next :: rest) h count bad =
          read (next :: rest) { base := e.tick, halves := 0, anyEdge := false } count bad) ∧
      (second < 2 * run * x.nominal → run * x.nominal < (cb + 1) * second →
        2 * (span - e.tick) * x.nominal < (2 * cb - 1) * second →
        read (e :: next :: rest) h count bad = (count, bad))) ∧
    (∀ (t q : Nat) (bits stops : List Bool) (parityBit : Bool) (later : List Edge),
      q * x.nominal = second → bits.length = x.line.format.dataBits →
      stops.length = x.line.format.stopBits → (true ∈ bits ∨ true ∈ stops) →
      (∀ y ∈ later, t + cb * q ≤ y.tick) → h.admits x.nominal t = true →
      (2 * cb - 1) * q ≤ 2 * (span - t) →
      let sent :=
        lineEdges x.line.polarity t q 1 false
          (bits ++ List.replicate x.line.format.parity.bits parityBit ++ stops) ++ later
      read ({ tick := t, level := space } :: sent) h count bad =
        read sent { base := t, halves := 2 * cb - 1, anyEdge := false } (count + 1)
          (bad || x.line.format.parity.isError (marksIn bits) parityBit || !stops.all id)))

/-- R14, R17, R29, R30, R34, R35, R66, R77: a trial that has come to its end hands its report to
the channel. A failing outcome counts an attempt and takes the channel to QUIET, or, beyond the
retry limit, to FAILED with its notice; FIT writes the candidate into the working profile, posts
PROFILE when it changed, applies a pending framing update, sets the bit clock to the nearest of
the nominal period, and enters ALIGN, or LOCKED at once in LENGTH mode with the guard off. The
unit then takes the next head, as TRIAL_START does. It rests on the model's choices in
notes/assumptions/5.md, notes/assumptions/14.md. -/
def Obligations.TrialOutcomeIsHandedBack : Prop :=
  ∀ (s : State) (t : Trial) (v : Verdict),
    s.resetAsserted = false → s.trial.service = some t → t.verdict = some v →
    let c := t.channel
    let k := s.chan c
    let report : TrialReport :=
      { outcome := v.outcome
        evaluated := t.position
        estimate := t.estimate
        chosen := v.chosen
        completed := BitVec.ofNat 32 (s.time.ticks / 48) }
    let free : State := { s with trial := { s.trial with service := none } }
    let failedOnce (k : Chan) (lock : LockState) : Chan :=
      { k with
        ctl :=
          { k.ctl with
            report := some report
            retryCount := k.ctl.retryCount + 1
            lock := lock }
        stats :=
          { k.stats with failedTrials := min 4294967295 (k.stats.failedTrials + 1) } }
    (v.chosen = none → k.ctl.retryCount + 1 ≤ k.config.retryLimit → k.ctl.gatherTimer = none →
      ∃ u, exec .trialStart
          (free.modChan c fun k =>
            { failedOnce k .quiet with
              sampler :=
                { k.sampler with
                  ring := []
                  lastCapture := none
                  idleLevel := .high
                  quietReference := s.time.ticks } }) = .next u ∧
        exec .trialComplete s = .next u) ∧
    (v.chosen = none → k.config.retryLimit < k.ctl.retryCount + 1 →
      ∃ u, exec .trialStart
          ((free.modChan c fun k => failedOnce k .failed).postChan c .failed
            (.failed v.outcome (k.ctl.retryCount + 1))) = .next u ∧
        exec .trialComplete s = .next u) ∧
    (∀ best, v.chosen = some best → s.LockLaw →
      let changed : Bool :=
        decide (k.working.line ≠ best.line) || decide (k.working.nominal ≠ best.nominal)
      let epoch := if changed then k.working.epoch + 1 else k.working.epoch
      let framing := if k.pendingUpdate then k.given.framing else k.working.framing
      let fitted : WorkingProfile :=
        { line := best.line
          nominal := best.nominal
          framing := framing
          confirmed := true
          epoch := if framing = k.working.framing then epoch else epoch + 1 }
      let aligning : State :=
        (if changed then free.postChan c .profile (.profile epoch best.line) else free).modChan c
          fun k =>
            { k with
              working := fitted
              pendingUpdate := false
              ctl :=
                { k.ctl with
                  lock := .align
                  windowChars := 0
                  windowErrors := 0
                  windowLength := k.config.windowLength
                  dormantTimer :=
                    if k.config.dormantS = 0 then none
                    else some (s.time.ticks + k.config.dormantS * 48000000)
                  report := some report }
              sampler :=
                { k.sampler with
                  trackedPeriod := nominalPeriod best.nominal
                  trackedOffset := 0
                  decode := .hunt s.time.ticks
                  edges := []
                  offsetCount := 0
                  offsetSum := 0 }
              framer := { state := .aligning, preamble := 0, gapTimer := none }
              stats := { k.stats with fits := min 4294967295 (k.stats.fits + 1) } }
      (¬(framing.mode = .length ∧ framing.gapLimit = 0) →
        ∃ u, exec .trialStart aligning = .next u ∧ exec .trialComplete s = .next u) ∧
      (framing.mode = .length → framing.gapLimit = 0 →
        ∃ u, exec .trialStart
            ((aligning.modChan c fun k =>
              { k with
                framer := { k.framer with state := .between }
                ctl := { k.ctl with lock := .locked, retryCount := 0 } }).postChan c .locked
              (.locked fitted.epoch best.nominal best.line.format false)) = .next u ∧
          exec .trialComplete s = .next u) ∧
      (best.nominal ≠ 0 →
        (2 * nominalPeriod best.nominal - 1) * best.nominal ≤ 2 * 256 * 48000000 ∧
          2 * 256 * 48000000 ≤ (2 * nominalPeriod best.nominal + 1) * best.nominal))

/-! ### Characters, breaks and windows (R36 to R41, R79 to R82, R89 to R98, R111 to R113) -/

/-- R79, R81, R82, R91, R92, R98: a start bit whose middle reads mark counts a false start and is
no character. An expiry of the gap timer that was held on it is taken in the same step, unless
another start edge or a change of the line dated before it holds it, or its moment is still to
come. A line at space throughout is held at the last stop-bit sample. A run of space up to one bit
beyond the character counts a break, which is no character: the open record closes with cause
BREAK, no error and no window count changes, and the gap timer restarts from the exact break
instant; a gap that expired before its start edge is taken first. Nothing else changes. A
character has a period greater than 0 in every run (R77). It rests on the model's choices in
notes/assumptions/4.md, notes/assumptions/9.md, notes/assumptions/10.md, notes/assumptions/11.md,
notes/assumptions/12.md. -/
def Obligations.FalseStartsAndBreaksAreNoCharacters : Prop :=
  ∀ (s : State) (c : Channel) (t per : Nat), s.resetAsserted = false →
    let k := s.chan c
    let pol := k.working.line.polarity
    let at_ : Instant :=
      { num := 256 * t + (k.working.line.format.charBits + 1) * per, den := 256 }
    let moment := at_.ceil + k.config.glitchLimit
    let last := lastSample t per k.working.line.format.charBits
    (k.sampler.decode = .sampling t per →
      (∀ d, k.sampler.pendingChange = some d → startSample t per < d) →
      levelAt pol.space k.sampler.edges (startSample t per) = pol.mark →
      ∃ (decode : Decode) (edges : List Edge),
        let hunting : State :=
          (s.advanceTo (startSample t per + k.config.glitchLimit)).modChan c fun k =>
            { k with
              stats :=
                { k.stats with falseStarts := min 4294967295 (k.stats.falseStarts + 1) }
              sampler := { k.sampler with decode := decode, edges := edges } }
        let waits (y : Instant) : Prop :=
          (hunting.chan c).GapWaits y ∨ hunting.time.ticks < y.ceil + k.config.glitchLimit
        ((∀ e ∈ k.sampler.edges, e.level = pol.mark) → decode = .hunt t ∧ edges = []) ∧
        (∀ e rest, (k.sampler.edges.dropWhile fun e => decide (e.level = pol.mark)) = e :: rest →
          t < e.tick → decode = .sampling e.tick k.sampler.trackedPeriod ∧ edges = rest) ∧
        ((∀ y, k.framer.gapTimer = some y → waits y) →
          exec (.falseStart c) s = .next hunting) ∧
        (∀ y, k.framer.gapTimer = some y → ¬waits y →
          ∃ u, exec (.gapExpiry c) hunting = .next u ∧ exec (.falseStart c) s = .next u)) ∧
    (k.sampler.decode = .sampling t per →
      (∀ d, k.sampler.pendingChange = some d → last < d) →
      (∀ e ∈ k.sampler.edges, last < e.tick) →
      levelAt pol.space k.sampler.edges (startSample t per) = pol.space →
      exec (.characterEvent c) s =
        .next ((s.advanceTo (last + k.config.glitchLimit)).modSampler c fun p =>
          { p with decode := .spaceHeld t per })) ∧
    (0 < per → (k.sampler.decode = .sampling t per ∨ k.sampler.decode = .spaceHeld t per) →
      (∀ e ∈ k.sampler.edges, at_.num ≤ 256 * e.tick) →
      (∀ d, k.sampler.pendingChange = some d → at_.num ≤ 256 * d) →
      (∀ y, k.framer.gapTimer = some y → y.after t = false →
        ∃ u, exec (.gapExpiry c) (s.advanceTo moment) = .next u ∧
          exec (.breakEvent c) s = exec (.breakEvent c) u) ∧
      ((∀ y, k.framer.gapTimer = some y → y.after t = true) → k.framer.state ≠ .idle →
        exec (.breakEvent c) s =
          .next ((((s.advanceTo moment).modChan c fun k =>
            { k with
              stats := { k.stats with breaks := min 4294967295 (k.stats.breaks + 1) }
              sampler := { k.sampler with decode := .waitMark at_.ceil }
              framer := { k.framer with gapTimer := gapFrom k.working at_ } }).closing c .brk
            (BitVec.ofNat 32 (at_.num / 256 / 48))).modChan c Chan.settleSampler)))

/-- R78, R80 to R82, R84, R89, R91 to R97, R99, R111 to R113, R120: a character event, decided in
SAMPLING at the last stop-bit sample or in SPACE_HELD by the edge to mark, completes in every
state of the framer and every framing mode. A gap that expired before its start edge is taken
first. Its errors are counted, its offset added, and the gap timer restarts from its end. In
ALIGNING the character is discarded and counted, and a delimiter in DELIM mode is the boundary,
which posts LOCKED. In BETWEEN a character that is not the start character is preamble; any other
opens a record, with a descriptor or dropped. A character of a record is stored or counted lost,
and closes it with cause DELIM, LENGTH or OVERSIZE. The character is then counted for the quality
window, and the sampler hunts for its next start edge. Nothing else changes. It rests on the
model's choices in notes/assumptions/4.md, notes/assumptions/9.md, notes/assumptions/10.md,
notes/assumptions/12.md. -/
def Obligations.CharacterActsByFramerState : Prop :=
  ∀ (s : State) (c : Channel) (t per since moment : Nat), s.resetAsserted = false →
    let k := s.chan c
    let cb := k.working.line.format.charBits
    let f := k.working.framing
    let x := decodeCharacter k.working.line k.sampler.edges t per
    let sound : Prop := x.parityOk = true ∧ x.framingOk = true
    k.Decides s.time.ticks t per since moment →
    (∀ y, k.framer.gapTimer = some y → y.after t = false →
      y.ceil + k.config.glitchLimit ≤ moment →
      (∀ d, k.sampler.pendingChange = some d → y.after d = false) →
      ∃ u, exec (.gapExpiry c) (s.advanceTo moment) = .next u ∧
        exec (.characterEvent c) s = exec (.characterEvent c) u) ∧
    ((∀ y, k.framer.gapTimer = some y → y.after t = true) →
      let heard (state : FramerState) (preamble discarded preambles : Nat) : State :=
        (s.advanceTo moment).modChan c fun k =>
          { k with
            stats :=
              { k.stats with
                parityErrors :=
                  if x.parityOk then k.stats.parityErrors
                  else min 4294967295 (k.stats.parityErrors + 1)
                framingErrors :=
                  if x.framingOk then k.stats.framingErrors
                  else min 4294967295 (k.stats.framingErrors + 1)
                discardedBeforeAlignment := discarded
                preambleBytes := preambles }
            sampler :=
              { k.sampler with
                decode := .hunt since
                offsetCount :=
                  if sound then
                    k.sampler.offsetCount + (characterOffset k.sampler.edges t per cb).1
                  else k.sampler.offsetCount
                offsetSum :=
                  if sound then
                    k.sampler.offsetSum + (characterOffset k.sampler.edges t per cb).2
                  else k.sampler.offsetSum }
            framer :=
              { state := state, preamble := preamble, gapTimer := gapFrom k.working x.endInstant } }
      let answers (u : State) : Prop :=
        exec (.characterEvent c) s =
          .next ((u.countCharacter c x).modChan c Chan.settleSampler)
      let pre := k.framer.preamble
      let discarded := k.stats.discardedBeforeAlignment
      let preambles := k.stats.preambleBytes
      (k.framer.state = .aligning →
        (¬(f.mode = .delim ∧ x.value ∈ f.delimiters) →
          answers (heard .aligning pre (min 4294967295 (discarded + 1)) preambles)) ∧
        (f.mode = .delim → x.value ∈ f.delimiters →
          answers (((heard .between 0 (min 4294967295 (discarded + 1)) preambles).modChan c
            fun k => { k with ctl := { k.ctl with lock := .locked, retryCount := 0 } }).postChan c
              .locked (.locked k.working.epoch k.working.nominal k.working.line.format false)))) ∧
      (∀ b, k.framer.state = .between → f.startChar = some b → x.value ≠ b →
        answers (heard .between (min 65535 (pre + 1)) discarded
          (min 4294967295 (preambles + 1)))) ∧
      (k.framer.state = .between → f.startChar = none ∨ f.startChar = some x.value →
        let opening (granted : Bool) : OpenRecord :=
          { hasDescriptor := granted
            startTime := BitVec.ofNat 32 (t / 48)
            bytes := []
            lost := 0
            truncated := false
            suspect := decide (k.ctl.lock = .degraded)
            parityErrors := 0
            framingErrors := 0
            firstError := none
            preamble := if f.startChar ≠ none ∧ 0 < pre then some pre else none
            epoch := k.working.epoch }
        let begun (granted : Bool) (pools : Pools) : State :=
          { heard (.inRecord (opening granted)) 0 discarded preambles with pools := pools }
        (0 < s.pools.freeDescriptors →
          answers ((begun true
              { s.pools with freeDescriptors := s.pools.freeDescriptors - 1 }).recording c
            (opening true) x f.startChar.isSome)) ∧
        (s.pools.freeDescriptors = 0 →
          answers ((begun false
              { s.pools with
                descriptorRefusals :=
                  min 4294967295 (s.pools.descriptorRefusals + 1) }).recording c
            (opening false) x f.startChar.isSome))) ∧
      (∀ r, k.framer.state = .inRecord r →
        answers ((heard (.inRecord r) pre discarded preambles).recording c r x false)))

/-- R36 to R41, R77, R84 to R86: each character is counted for the quality window. One that ends
it has the window judged: it fails with ERRORS above the error threshold, else with DRIFT beyond
ten times the tolerance, else it passes. A pass corrects the period and takes DEGRADED back to
LOCKED; a failure takes LOCKED to DEGRADED with the holdover timer running, posts DEGRADED again
in DEGRADED, and in ALIGN counts a failed attempt. The window offset is the mean relative
deviation of the contributing edges in per mille, rounded toward zero and limited to 127; an edge
contributes its deviation from the nearest boundary, when that is one within the character; the
corrected period is the product rounded to the nearest, a half up, and limited to 0.875 to 1.125
of the nominal; the tracked offset is its difference from the nominal in per mille, rounded toward
zero. -/
def Obligations.QualityWindowIsJudged : Prop :=
  (∀ (s : State) (c : Channel) (x : Character),
    let k := s.chan c
    let errors := k.ctl.windowErrors + x.errored.toNat
    let offset := offsetOf k.sampler.offsetCount k.sampler.offsetSum
    let good : Prop :=
      errors ≤ k.config.errorThreshold ∧ offset.natAbs ≤ 10 * k.config.tolerance
    let reason : FailReason := if k.config.errorThreshold < errors then .errors else .drift
    let restarted (d : Controller) : Controller :=
      { d with windowChars := 0, windowErrors := 0, windowLength := k.config.windowLength }
    let cleared (p : Sampler) : Sampler := { p with offsetCount := 0, offsetSum := 0 }
    let corrected (p : Sampler) : Sampler :=
      let period := correctedPeriod k.working.nominal p.trackedPeriod offset
      { cleared p with
        trackedPeriod := period
        trackedOffset := trackedOffsetOf k.working.nominal period }
    (k.ctl.windowChars + 1 < k.ctl.windowLength →
      s.countCharacter c x =
        s.modCtl c fun d => { d with windowChars := d.windowChars + 1, windowErrors := errors }) ∧
    (k.ctl.windowLength ≤ k.ctl.windowChars + 1 →
    (good → k.ctl.lock = .align ∨ k.ctl.lock = .locked →
      s.countCharacter c x =
        s.modChan c fun k =>
          { k with sampler := corrected k.sampler, ctl := restarted k.ctl }) ∧
    (good → k.ctl.lock = .degraded →
      s.countCharacter c x =
        (s.modChan c fun k =>
          { k with
            sampler := corrected k.sampler
            ctl :=
              { restarted k.ctl with
                lock := .locked
                retryCount := 0
                holdoverTimer := none } }).postChan c .locked
          (.locked k.working.epoch k.working.nominal k.working.line.format true)) ∧
    (¬good → k.ctl.lock = .locked →
      s.countCharacter c x =
        (s.modChan c fun k =>
          { k with
            sampler := cleared k.sampler
            ctl :=
              { restarted k.ctl with
                lock := .degraded
                holdoverTimer := some (s.time.ticks + k.config.holdoverMs * 48000) }
            framer :=
              { k.framer with
                state :=
                  match k.framer.state with
                  | .inRecord r => .inRecord { r with suspect := true }
                  | other => other }
            stats :=
              { k.stats with
                degradedEntries :=
                  min 4294967295 (k.stats.degradedEntries + 1) } }).postChan c .degraded
          (.degraded reason errors offset)) ∧
    (¬good → k.ctl.lock = .degraded →
      s.countCharacter c x =
        (s.modChan c fun k =>
          { k with sampler := cleared k.sampler, ctl := restarted k.ctl }).postChan c .degraded
          (.degraded reason errors offset)) ∧
    (¬good → k.ctl.lock = .align →
      let stopped (k : Chan) (lock : LockState) : Chan :=
        { k with
          ctl :=
            { restarted k.ctl with
              lock := lock
              retryCount := k.ctl.retryCount + 1
              holdoverTimer := none
              dormantTimer := none }
          sampler := { cleared k.sampler with decode := .stopped, edges := [] }
          framer := { state := .idle, preamble := 0, gapTimer := none } }
      (k.ctl.retryCount + 1 ≤ k.config.retryLimit → k.ctl.gatherTimer = none →
        s.countCharacter c x =
          s.modChan c fun k =>
            { stopped k .quiet with
              sampler :=
                { (stopped k .quiet).sampler.captureCleared with
                  quietReference := s.time.ticks } }) ∧
      (∀ r, k.ctl.report = some r → k.config.retryLimit < k.ctl.retryCount + 1 →
        s.countCharacter c x =
          (s.modChan c fun k => stopped k .failed).postChan c .failed
            (.failed r.outcome (k.ctl.retryCount + 1)))))) ∧
  (∀ (n : Nat) (sum : Rat),
    (n = 0 → offsetOf n sum = 0) ∧
    (n ≠ 0 →
      ∃ v, Truncates v (sum * 1000 / n) ∧ offsetOf n sum = max (-127) (min 127 v))) ∧
  (∀ (edges : List Edge) (e : Edge) (t p cb : Nat), 0 < p →
    let sums := characterOffset edges t p cb
    let d := e.tick - t
    characterOffset [] t p cb = (0, 0) ∧
    (e.tick ≤ t ∨ lastSample t p cb < e.tick → characterOffset (edges ++ [e]) t p cb = sums) ∧
    (t < e.tick → e.tick ≤ lastSample t p cb →
      ∀ k : Nat, 2 * k * p ≤ 2 * (256 * d) + p → 2 * (256 * d) + p < 2 * (k + 1) * p →
        characterOffset (edges ++ [e]) t p cb =
          if 1 ≤ k ∧ k + 1 ≤ cb then
            (sums.1 + 1, sums.2 + ((256 * d : Rat) - k * p) / (k * p))
          else sums)) ∧
  (∀ (nominal period q : Nat) (offset : Int), 0 < nominal → nominal ≤ 3000000 →
    -1000 ≤ offset →
    let whole : Nat := 256 * 48000000
    let product : Int := period * (1000 + offset)
    let corrected := correctedPeriod nominal period offset
    (1000 * (2 * (q : Int) - 1) ≤ 2 * product → 2 * product < 1000 * (2 * (q : Int) + 1) →
      (8 * nominal * q < 7 * whole →
        7 * whole ≤ 8 * nominal * corrected ∧ 8 * nominal * corrected < 7 * whole + 8 * nominal) ∧
      (9 * whole < 8 * nominal * q →
        8 * nominal * corrected ≤ 9 * whole ∧ 9 * whole < 8 * nominal * corrected + 8 * nominal) ∧
      (7 * whole ≤ 8 * nominal * q → 8 * nominal * q ≤ 9 * whole → corrected = q)) ∧
    Truncates (trackedOffsetOf nominal period)
      ((((period * nominal : Nat) : Rat) - whole) * 1000 / whole))

/-! ### Expiries (R43, R44, R92) -/

/-- R89, R91, R92, R99: a gap expires, the moment come, while the sampler is on no start edge
dated before the instant and no change dated before it has still to pass the filter; else it
waits. In BETWEEN, and in ALIGNING under DELIM, the timer stops and nothing else happens; in
ALIGNING under GAP or LENGTH the boundary is found and LOCKED posted; an open record closes with
cause GAP at the expiry instant, and a pending framing update is then applied. The instant lies at
the reference plus the gap limit times the character bits times the nominal period, exactly. It
rests on the model's choices in notes/assumptions/3.md, notes/assumptions/4.md,
notes/assumptions/10.md. -/
def Obligations.GapExpiryActsByFramerState : Prop :=
  (∀ (s : State) (c : Channel) (x : Instant), s.resetAsserted = false →
    let k := s.chan c
    let at_ := s.advanceTo ((x.num + x.den - 1) / x.den + k.config.glitchLimit)
    k.framer.gapTimer = some x →
    (k.GapWaits x → exec (.gapExpiry c) s = .next s) ∧
    (¬k.GapWaits x →
      (k.framer.state = .between ∨
          (k.framer.state = .aligning ∧ k.working.framing.mode = .delim) →
        exec (.gapExpiry c) s =
          .next (at_.modFramer c fun f => { f with gapTimer := none })) ∧
      (k.framer.state = .aligning → k.working.framing.mode ≠ .delim →
        exec (.gapExpiry c) s =
          .next ((at_.modChan c fun k =>
            { k with
              framer := { state := .between, preamble := 0, gapTimer := none }
              ctl := { k.ctl with lock := .locked, retryCount := 0 } }).postChan c .locked
            (.locked k.working.epoch k.working.nominal k.working.line.format false))) ∧
      (∀ r, k.framer.state = .inRecord r →
        exec (.gapExpiry c) s =
          .next ((at_.modFramer c fun f => { f with gapTimer := none }).closing c .gap
            (BitVec.ofNat 32 (x.num / x.den / 48)))))) ∧
  (∀ (w : WorkingProfile) (x : Instant), 0 < w.nominal → 0 < x.den →
    (w.framing.gapLimit = 0 → gapFrom w x = none) ∧
    (w.framing.gapLimit ≠ 0 →
      ∃ y, gapFrom w x = some y ∧ 0 < y.den ∧
        (y.num : Rat) / y.den =
          x.num / x.den + w.framing.gapLimit * w.line.format.charBits * (48000000 / w.nominal)))

/-- R43, R44: holdover expiry in DEGRADED, and dormant expiry in a decoding state, release the
channel: an open record closes with cause LOCKLOSS or DORMANT, the channel is in QUIET with its
working profile (but for a framing update pending at the closure) and retry count kept and every
timer of the state stopped, the release is counted and RELEASED posted; nothing else changes. It
rests on the model's choices in notes/assumptions/4.md, notes/assumptions/18.md,
notes/assumptions/22.md. -/
def Obligations.ExpiriesReleaseTheChannel : Prop :=
  ∀ (s : State) (c : Channel) (x : Nat) (i : Instr) (cause : Cause) (reason : ReleaseReason),
    s.resetAsserted = false →
    let k := s.chan c
    ((i = .holdoverExpiry c ∧ cause = .lockLoss ∧ reason = .holdover ∧ k.ctl.lock = .degraded ∧
        k.ctl.holdoverTimer = some x) ∨
      (i = .dormantExpiry c ∧ cause = .dormant ∧ reason = .dormant ∧
        (k.ctl.lock = .align ∨ k.ctl.lock = .locked ∨ k.ctl.lock = .degraded) ∧
        k.ctl.dormantTimer = some x)) →
    let at_ := s.advanceTo x
    exec i s =
      .next (((at_.closing c cause (BitVec.ofNat 32 (at_.time.ticks / 48))).modChan c fun k =>
        { k.workUndone with
          ctl := { k.workUndone.ctl with lock := .quiet }
          sampler :=
            { k.workUndone.sampler.captureCleared with quietReference := at_.time.ticks }
          stats := { k.stats with releases := min 4294967295 (k.stats.releases + 1) } }).postChan c
        .released (.released reason))

end StatementsForTheProvers
end

