-- ==== Sys2Proof/Laws/State.lean ====
section
/-! SUPPORT. The small lemmas of the state: what reading each field after each update gives. -/

namespace Sys2Proof.Machine

/-! ### One channel read and written -/

@[simp] theorem State.chan_modChan_same (s : State) (c : Channel) (f : Chan → Chan) :
    (s.modChan c f).chan c = f (s.chan c) := by
  simp [State.chan, State.modChan]

theorem State.chan_modChan_other {c d : Channel} (h : d ≠ c) (s : State) (f : Chan → Chan) :
    (s.modChan c f).chan d = s.chan d := by
  have hv : c.val ≠ d.val := fun e => h (Fin.ext e.symm)
  simp [State.chan, State.modChan, Vector.getElem_set_ne, hv]

/-- Reading channel `d` after a write of channel `c`, whichever `d` is. -/
theorem State.chan_modChan (s : State) (c d : Channel) (f : Chan → Chan) :
    (s.modChan c f).chan d = if d = c then f (s.chan c) else s.chan d := by
  by_cases h : d = c
  · subst h; simp
  · simp [h, State.chan_modChan_other h]

/-- Two writes of one channel are one. -/
theorem State.modChan_modChan (s : State) (c : Channel) (f g : Chan → Chan) :
    (s.modChan c f).modChan c g = s.modChan c fun k => g (f k) := by
  have h : (s.modChan c f).chan c = f (s.chan c) := State.chan_modChan_same s c f
  unfold State.modChan at *
  simp [h]

/-- Writing back what is there changes nothing. -/
theorem State.modChan_same (s : State) (c : Channel) {f : Chan → Chan} (h : f (s.chan c) = s.chan c) :
    s.modChan c f = s := by
  have hs : s.chans.set c.val (s.chan c) = s.chans := by simp [State.chan]
  simp [State.modChan, h, hs]

/-- Two states that agree on every field and every channel are one. -/
theorem State.ext_chan {s t : State} (hc : ∀ c, s.chan c = t.chan c)
    (hr : { s with chans := t.chans } = t) : s = t := by
  have : s.chans = t.chans := by
    apply Vector.ext
    intro i hi
    exact hc ⟨i, hi⟩
  rw [← hr, ← this]

/-! ### A write of one channel touches nothing else -/

@[simp] theorem State.modChan_resetAsserted (s : State) (c : Channel) (f : Chan → Chan) :
    (s.modChan c f).resetAsserted = s.resetAsserted := rfl
@[simp] theorem State.modChan_resetCause (s : State) (c : Channel) (f : Chan → Chan) :
    (s.modChan c f).resetCause = s.resetCause := rfl
@[simp] theorem State.modChan_lineIn (s : State) (c : Channel) (f : Chan → Chan) :
    (s.modChan c f).lineIn = s.lineIn := rfl
@[simp] theorem State.modChan_time (s : State) (c : Channel) (f : Chan → Chan) :
    (s.modChan c f).time = s.time := rfl
@[simp] theorem State.modChan_rates (s : State) (c : Channel) (f : Chan → Chan) :
    (s.modChan c f).rates = s.rates := rfl
@[simp] theorem State.modChan_trial (s : State) (c : Channel) (f : Chan → Chan) :
    (s.modChan c f).trial = s.trial := rfl
@[simp] theorem State.modChan_pools (s : State) (c : Channel) (f : Chan → Chan) :
    (s.modChan c f).pools = s.pools := rfl
@[simp] theorem State.modChan_leaseCounter (s : State) (c : Channel) (f : Chan → Chan) :
    (s.modChan c f).leaseCounter = s.leaseCounter := rfl
@[simp] theorem State.modChan_notices (s : State) (c : Channel) (f : Chan → Chan) :
    (s.modChan c f).notices = s.notices := rfl
@[simp] theorem State.modChan_link (s : State) (c : Channel) (f : Chan → Chan) :
    (s.modChan c f).link = s.link := rfl
@[simp] theorem State.modChan_pending (s : State) (c : Channel) (f : Chan → Chan) :
    (s.modChan c f).pending = s.pending := rfl

/-! ### `modCtl` -/

/-- `modCtl` as a write of the channel. -/
theorem State.modCtl_eq (s : State) (c : Channel) (f : Controller → Controller) :
    s.modCtl c f = s.modChan c fun k => { k with ctl := f k.ctl } := rfl

@[simp] theorem State.chan_modCtl_same (s : State) (c : Channel) (f : Controller → Controller) :
    (s.modCtl c f).chan c = { s.chan c with ctl := f (s.chan c).ctl } :=
  State.chan_modChan_same ..

theorem State.chan_modCtl_other {c d : Channel} (h : d ≠ c) (s : State) (f : Controller → Controller) :
    (s.modCtl c f).chan d = s.chan d :=
  State.chan_modChan_other h ..

@[simp] theorem State.modCtl_resetAsserted (s : State) (c : Channel) (f : Controller → Controller) :
    (s.modCtl c f).resetAsserted = s.resetAsserted := rfl
@[simp] theorem State.modCtl_resetCause (s : State) (c : Channel) (f : Controller → Controller) :
    (s.modCtl c f).resetCause = s.resetCause := rfl
@[simp] theorem State.modCtl_lineIn (s : State) (c : Channel) (f : Controller → Controller) :
    (s.modCtl c f).lineIn = s.lineIn := rfl
@[simp] theorem State.modCtl_time (s : State) (c : Channel) (f : Controller → Controller) :
    (s.modCtl c f).time = s.time := rfl
@[simp] theorem State.modCtl_rates (s : State) (c : Channel) (f : Controller → Controller) :
    (s.modCtl c f).rates = s.rates := rfl
@[simp] theorem State.modCtl_trial (s : State) (c : Channel) (f : Controller → Controller) :
    (s.modCtl c f).trial = s.trial := rfl
@[simp] theorem State.modCtl_pools (s : State) (c : Channel) (f : Controller → Controller) :
    (s.modCtl c f).pools = s.pools := rfl
@[simp] theorem State.modCtl_leaseCounter (s : State) (c : Channel) (f : Controller → Controller) :
    (s.modCtl c f).leaseCounter = s.leaseCounter := rfl
@[simp] theorem State.modCtl_notices (s : State) (c : Channel) (f : Controller → Controller) :
    (s.modCtl c f).notices = s.notices := rfl
@[simp] theorem State.modCtl_link (s : State) (c : Channel) (f : Controller → Controller) :
    (s.modCtl c f).link = s.link := rfl
@[simp] theorem State.modCtl_pending (s : State) (c : Channel) (f : Controller → Controller) :
    (s.modCtl c f).pending = s.pending := rfl

/-! ### `modSampler` -/

/-- `modSampler` as a write of the channel. -/
theorem State.modSampler_eq (s : State) (c : Channel) (f : Sampler → Sampler) :
    s.modSampler c f = s.modChan c fun k => { k with sampler := f k.sampler } := rfl

@[simp] theorem State.chan_modSampler_same (s : State) (c : Channel) (f : Sampler → Sampler) :
    (s.modSampler c f).chan c = { s.chan c with sampler := f (s.chan c).sampler } :=
  State.chan_modChan_same ..

theorem State.chan_modSampler_other {c d : Channel} (h : d ≠ c) (s : State) (f : Sampler → Sampler) :
    (s.modSampler c f).chan d = s.chan d :=
  State.chan_modChan_other h ..

@[simp] theorem State.modSampler_resetAsserted (s : State) (c : Channel) (f : Sampler → Sampler) :
    (s.modSampler c f).resetAsserted = s.resetAsserted := rfl
@[simp] theorem State.modSampler_resetCause (s : State) (c : Channel) (f : Sampler → Sampler) :
    (s.modSampler c f).resetCause = s.resetCause := rfl
@[simp] theorem State.modSampler_lineIn (s : State) (c : Channel) (f : Sampler → Sampler) :
    (s.modSampler c f).lineIn = s.lineIn := rfl
@[simp] theorem State.modSampler_time (s : State) (c : Channel) (f : Sampler → Sampler) :
    (s.modSampler c f).time = s.time := rfl
@[simp] theorem State.modSampler_rates (s : State) (c : Channel) (f : Sampler → Sampler) :
    (s.modSampler c f).rates = s.rates := rfl
@[simp] theorem State.modSampler_trial (s : State) (c : Channel) (f : Sampler → Sampler) :
    (s.modSampler c f).trial = s.trial := rfl
@[simp] theorem State.modSampler_pools (s : State) (c : Channel) (f : Sampler → Sampler) :
    (s.modSampler c f).pools = s.pools := rfl
@[simp] theorem State.modSampler_leaseCounter (s : State) (c : Channel) (f : Sampler → Sampler) :
    (s.modSampler c f).leaseCounter = s.leaseCounter := rfl
@[simp] theorem State.modSampler_notices (s : State) (c : Channel) (f : Sampler → Sampler) :
    (s.modSampler c f).notices = s.notices := rfl
@[simp] theorem State.modSampler_link (s : State) (c : Channel) (f : Sampler → Sampler) :
    (s.modSampler c f).link = s.link := rfl
@[simp] theorem State.modSampler_pending (s : State) (c : Channel) (f : Sampler → Sampler) :
    (s.modSampler c f).pending = s.pending := rfl

/-! ### `modFramer` -/

/-- `modFramer` as a write of the channel. -/
theorem State.modFramer_eq (s : State) (c : Channel) (f : Framer → Framer) :
    s.modFramer c f = s.modChan c fun k => { k with framer := f k.framer } := rfl

@[simp] theorem State.chan_modFramer_same (s : State) (c : Channel) (f : Framer → Framer) :
    (s.modFramer c f).chan c = { s.chan c with framer := f (s.chan c).framer } :=
  State.chan_modChan_same ..

theorem State.chan_modFramer_other {c d : Channel} (h : d ≠ c) (s : State) (f : Framer → Framer) :
    (s.modFramer c f).chan d = s.chan d :=
  State.chan_modChan_other h ..

@[simp] theorem State.modFramer_resetAsserted (s : State) (c : Channel) (f : Framer → Framer) :
    (s.modFramer c f).resetAsserted = s.resetAsserted := rfl
@[simp] theorem State.modFramer_resetCause (s : State) (c : Channel) (f : Framer → Framer) :
    (s.modFramer c f).resetCause = s.resetCause := rfl
@[simp] theorem State.modFramer_lineIn (s : State) (c : Channel) (f : Framer → Framer) :
    (s.modFramer c f).lineIn = s.lineIn := rfl
@[simp] theorem State.modFramer_time (s : State) (c : Channel) (f : Framer → Framer) :
    (s.modFramer c f).time = s.time := rfl
@[simp] theorem State.modFramer_rates (s : State) (c : Channel) (f : Framer → Framer) :
    (s.modFramer c f).rates = s.rates := rfl
@[simp] theorem State.modFramer_trial (s : State) (c : Channel) (f : Framer → Framer) :
    (s.modFramer c f).trial = s.trial := rfl
@[simp] theorem State.modFramer_pools (s : State) (c : Channel) (f : Framer → Framer) :
    (s.modFramer c f).pools = s.pools := rfl
@[simp] theorem State.modFramer_leaseCounter (s : State) (c : Channel) (f : Framer → Framer) :
    (s.modFramer c f).leaseCounter = s.leaseCounter := rfl
@[simp] theorem State.modFramer_notices (s : State) (c : Channel) (f : Framer → Framer) :
    (s.modFramer c f).notices = s.notices := rfl
@[simp] theorem State.modFramer_link (s : State) (c : Channel) (f : Framer → Framer) :
    (s.modFramer c f).link = s.link := rfl
@[simp] theorem State.modFramer_pending (s : State) (c : Channel) (f : Framer → Framer) :
    (s.modFramer c f).pending = s.pending := rfl

/-! ### `modStore` -/

/-- `modStore` as a write of the channel. -/
theorem State.modStore_eq (s : State) (c : Channel) (f : ChannelStore → ChannelStore) :
    s.modStore c f = s.modChan c fun k => { k with store := f k.store } := rfl

@[simp] theorem State.chan_modStore_same (s : State) (c : Channel) (f : ChannelStore → ChannelStore) :
    (s.modStore c f).chan c = { s.chan c with store := f (s.chan c).store } :=
  State.chan_modChan_same ..

theorem State.chan_modStore_other {c d : Channel} (h : d ≠ c) (s : State) (f : ChannelStore → ChannelStore) :
    (s.modStore c f).chan d = s.chan d :=
  State.chan_modChan_other h ..

@[simp] theorem State.modStore_resetAsserted (s : State) (c : Channel) (f : ChannelStore → ChannelStore) :
    (s.modStore c f).resetAsserted = s.resetAsserted := rfl
@[simp] theorem State.modStore_resetCause (s : State) (c : Channel) (f : ChannelStore → ChannelStore) :
    (s.modStore c f).resetCause = s.resetCause := rfl
@[simp] theorem State.modStore_lineIn (s : State) (c : Channel) (f : ChannelStore → ChannelStore) :
    (s.modStore c f).lineIn = s.lineIn := rfl
@[simp] theorem State.modStore_time (s : State) (c : Channel) (f : ChannelStore → ChannelStore) :
    (s.modStore c f).time = s.time := rfl
@[simp] theorem State.modStore_rates (s : State) (c : Channel) (f : ChannelStore → ChannelStore) :
    (s.modStore c f).rates = s.rates := rfl
@[simp] theorem State.modStore_trial (s : State) (c : Channel) (f : ChannelStore → ChannelStore) :
    (s.modStore c f).trial = s.trial := rfl
@[simp] theorem State.modStore_pools (s : State) (c : Channel) (f : ChannelStore → ChannelStore) :
    (s.modStore c f).pools = s.pools := rfl
@[simp] theorem State.modStore_leaseCounter (s : State) (c : Channel) (f : ChannelStore → ChannelStore) :
    (s.modStore c f).leaseCounter = s.leaseCounter := rfl
@[simp] theorem State.modStore_notices (s : State) (c : Channel) (f : ChannelStore → ChannelStore) :
    (s.modStore c f).notices = s.notices := rfl
@[simp] theorem State.modStore_link (s : State) (c : Channel) (f : ChannelStore → ChannelStore) :
    (s.modStore c f).link = s.link := rfl
@[simp] theorem State.modStore_pending (s : State) (c : Channel) (f : ChannelStore → ChannelStore) :
    (s.modStore c f).pending = s.pending := rfl

/-! ### `modStats` -/

/-- `modStats` as a write of the channel. -/
theorem State.modStats_eq (s : State) (c : Channel) (f : Statistics → Statistics) :
    s.modStats c f = s.modChan c fun k => { k with stats := f k.stats } := rfl

@[simp] theorem State.chan_modStats_same (s : State) (c : Channel) (f : Statistics → Statistics) :
    (s.modStats c f).chan c = { s.chan c with stats := f (s.chan c).stats } :=
  State.chan_modChan_same ..

theorem State.chan_modStats_other {c d : Channel} (h : d ≠ c) (s : State) (f : Statistics → Statistics) :
    (s.modStats c f).chan d = s.chan d :=
  State.chan_modChan_other h ..

@[simp] theorem State.modStats_resetAsserted (s : State) (c : Channel) (f : Statistics → Statistics) :
    (s.modStats c f).resetAsserted = s.resetAsserted := rfl
@[simp] theorem State.modStats_resetCause (s : State) (c : Channel) (f : Statistics → Statistics) :
    (s.modStats c f).resetCause = s.resetCause := rfl
@[simp] theorem State.modStats_lineIn (s : State) (c : Channel) (f : Statistics → Statistics) :
    (s.modStats c f).lineIn = s.lineIn := rfl
@[simp] theorem State.modStats_time (s : State) (c : Channel) (f : Statistics → Statistics) :
    (s.modStats c f).time = s.time := rfl
@[simp] theorem State.modStats_rates (s : State) (c : Channel) (f : Statistics → Statistics) :
    (s.modStats c f).rates = s.rates := rfl
@[simp] theorem State.modStats_trial (s : State) (c : Channel) (f : Statistics → Statistics) :
    (s.modStats c f).trial = s.trial := rfl
@[simp] theorem State.modStats_pools (s : State) (c : Channel) (f : Statistics → Statistics) :
    (s.modStats c f).pools = s.pools := rfl
@[simp] theorem State.modStats_leaseCounter (s : State) (c : Channel) (f : Statistics → Statistics) :
    (s.modStats c f).leaseCounter = s.leaseCounter := rfl
@[simp] theorem State.modStats_notices (s : State) (c : Channel) (f : Statistics → Statistics) :
    (s.modStats c f).notices = s.notices := rfl
@[simp] theorem State.modStats_link (s : State) (c : Channel) (f : Statistics → Statistics) :
    (s.modStats c f).link = s.link := rfl
@[simp] theorem State.modStats_pending (s : State) (c : Channel) (f : Statistics → Statistics) :
    (s.modStats c f).pending = s.pending := rfl

/-! ### Posts -/

@[simp] theorem State.chan_post (s : State) (slot : Slot) (v : NoticeValues) (d : Channel) :
    (s.post slot v).chan d = s.chan d := rfl
@[simp] theorem State.post_resetAsserted (s : State) (slot : Slot) (v : NoticeValues) :
    (s.post slot v).resetAsserted = s.resetAsserted := rfl
@[simp] theorem State.post_resetCause (s : State) (slot : Slot) (v : NoticeValues) :
    (s.post slot v).resetCause = s.resetCause := rfl
@[simp] theorem State.post_lineIn (s : State) (slot : Slot) (v : NoticeValues) :
    (s.post slot v).lineIn = s.lineIn := rfl
@[simp] theorem State.post_time (s : State) (slot : Slot) (v : NoticeValues) :
    (s.post slot v).time = s.time := rfl
@[simp] theorem State.post_rates (s : State) (slot : Slot) (v : NoticeValues) :
    (s.post slot v).rates = s.rates := rfl
@[simp] theorem State.post_chans (s : State) (slot : Slot) (v : NoticeValues) :
    (s.post slot v).chans = s.chans := rfl
@[simp] theorem State.post_trial (s : State) (slot : Slot) (v : NoticeValues) :
    (s.post slot v).trial = s.trial := rfl
@[simp] theorem State.post_pools (s : State) (slot : Slot) (v : NoticeValues) :
    (s.post slot v).pools = s.pools := rfl
@[simp] theorem State.post_leaseCounter (s : State) (slot : Slot) (v : NoticeValues) :
    (s.post slot v).leaseCounter = s.leaseCounter := rfl
@[simp] theorem State.post_link (s : State) (slot : Slot) (v : NoticeValues) :
    (s.post slot v).link = s.link := rfl
@[simp] theorem State.post_pending (s : State) (slot : Slot) (v : NoticeValues) :
    (s.post slot v).pending = s.pending := rfl

@[simp] theorem State.chan_postChan (s : State) (c : Channel) (kind : ChannelKind) (v : NoticeValues) (d : Channel) :
    (s.postChan c kind v).chan d = s.chan d := rfl
@[simp] theorem State.postChan_resetAsserted (s : State) (c : Channel) (kind : ChannelKind) (v : NoticeValues) :
    (s.postChan c kind v).resetAsserted = s.resetAsserted := rfl
@[simp] theorem State.postChan_resetCause (s : State) (c : Channel) (kind : ChannelKind) (v : NoticeValues) :
    (s.postChan c kind v).resetCause = s.resetCause := rfl
@[simp] theorem State.postChan_lineIn (s : State) (c : Channel) (kind : ChannelKind) (v : NoticeValues) :
    (s.postChan c kind v).lineIn = s.lineIn := rfl
@[simp] theorem State.postChan_time (s : State) (c : Channel) (kind : ChannelKind) (v : NoticeValues) :
    (s.postChan c kind v).time = s.time := rfl
@[simp] theorem State.postChan_rates (s : State) (c : Channel) (kind : ChannelKind) (v : NoticeValues) :
    (s.postChan c kind v).rates = s.rates := rfl
@[simp] theorem State.postChan_chans (s : State) (c : Channel) (kind : ChannelKind) (v : NoticeValues) :
    (s.postChan c kind v).chans = s.chans := rfl
@[simp] theorem State.postChan_trial (s : State) (c : Channel) (kind : ChannelKind) (v : NoticeValues) :
    (s.postChan c kind v).trial = s.trial := rfl
@[simp] theorem State.postChan_pools (s : State) (c : Channel) (kind : ChannelKind) (v : NoticeValues) :
    (s.postChan c kind v).pools = s.pools := rfl
@[simp] theorem State.postChan_leaseCounter (s : State) (c : Channel) (kind : ChannelKind) (v : NoticeValues) :
    (s.postChan c kind v).leaseCounter = s.leaseCounter := rfl
@[simp] theorem State.postChan_link (s : State) (c : Channel) (kind : ChannelKind) (v : NoticeValues) :
    (s.postChan c kind v).link = s.link := rfl
@[simp] theorem State.postChan_pending (s : State) (c : Channel) (kind : ChannelKind) (v : NoticeValues) :
    (s.postChan c kind v).pending = s.pending := rfl

@[simp] theorem State.chan_withdraw (s : State) (c : Channel) (d : Channel) :
    (s.withdraw c).chan d = s.chan d := rfl
@[simp] theorem State.withdraw_resetAsserted (s : State) (c : Channel) :
    (s.withdraw c).resetAsserted = s.resetAsserted := rfl
@[simp] theorem State.withdraw_resetCause (s : State) (c : Channel) :
    (s.withdraw c).resetCause = s.resetCause := rfl
@[simp] theorem State.withdraw_lineIn (s : State) (c : Channel) :
    (s.withdraw c).lineIn = s.lineIn := rfl
@[simp] theorem State.withdraw_time (s : State) (c : Channel) :
    (s.withdraw c).time = s.time := rfl
@[simp] theorem State.withdraw_rates (s : State) (c : Channel) :
    (s.withdraw c).rates = s.rates := rfl
@[simp] theorem State.withdraw_chans (s : State) (c : Channel) :
    (s.withdraw c).chans = s.chans := rfl
@[simp] theorem State.withdraw_trial (s : State) (c : Channel) :
    (s.withdraw c).trial = s.trial := rfl
@[simp] theorem State.withdraw_pools (s : State) (c : Channel) :
    (s.withdraw c).pools = s.pools := rfl
@[simp] theorem State.withdraw_leaseCounter (s : State) (c : Channel) :
    (s.withdraw c).leaseCounter = s.leaseCounter := rfl
@[simp] theorem State.withdraw_link (s : State) (c : Channel) :
    (s.withdraw c).link = s.link := rfl
@[simp] theorem State.withdraw_pending (s : State) (c : Channel) :
    (s.withdraw c).pending = s.pending := rfl

@[simp] theorem State.chan_startedPost (s : State) (reason : StartReason) (d : Channel) :
    (s.startedPost reason).chan d = s.chan d := rfl
@[simp] theorem State.startedPost_resetAsserted (s : State) (reason : StartReason) :
    (s.startedPost reason).resetAsserted = s.resetAsserted := rfl
@[simp] theorem State.startedPost_resetCause (s : State) (reason : StartReason) :
    (s.startedPost reason).resetCause = s.resetCause := rfl
@[simp] theorem State.startedPost_lineIn (s : State) (reason : StartReason) :
    (s.startedPost reason).lineIn = s.lineIn := rfl
@[simp] theorem State.startedPost_time (s : State) (reason : StartReason) :
    (s.startedPost reason).time = s.time := rfl
@[simp] theorem State.startedPost_rates (s : State) (reason : StartReason) :
    (s.startedPost reason).rates = s.rates := rfl
@[simp] theorem State.startedPost_chans (s : State) (reason : StartReason) :
    (s.startedPost reason).chans = s.chans := rfl
@[simp] theorem State.startedPost_trial (s : State) (reason : StartReason) :
    (s.startedPost reason).trial = s.trial := rfl
@[simp] theorem State.startedPost_pools (s : State) (reason : StartReason) :
    (s.startedPost reason).pools = s.pools := rfl
@[simp] theorem State.startedPost_leaseCounter (s : State) (reason : StartReason) :
    (s.startedPost reason).leaseCounter = s.leaseCounter := rfl
@[simp] theorem State.startedPost_link (s : State) (reason : StartReason) :
    (s.startedPost reason).link = s.link := rfl
@[simp] theorem State.startedPost_pending (s : State) (reason : StartReason) :
    (s.startedPost reason).pending = s.pending := rfl

@[simp] theorem State.post_credit (s : State) (slot : Slot) (v : NoticeValues) :
    (s.post slot v).notices.credit = s.notices.credit := rfl
@[simp] theorem State.post_nextSeq (s : State) (slot : Slot) (v : NoticeValues) :
    (s.post slot v).notices.nextSeq = s.notices.nextSeq := rfl
theorem State.post_pending_eq (s : State) (slot : Slot) (v : NoticeValues) :
    (s.post slot v).notices.pending =
      postTo slot v (s.time.ticks / ticksPerMicrosecond) s.notices.pending := rfl

/-! ### Time -/

@[simp] theorem State.chan_advanceTo (s : State) (tick : Nat) (d : Channel) :
    (s.advanceTo tick).chan d = s.chan d := by
  unfold State.advanceTo; split <;> rfl
@[simp] theorem State.advanceTo_resetAsserted (s : State) (tick : Nat) :
    (s.advanceTo tick).resetAsserted = s.resetAsserted := by
  unfold State.advanceTo; split <;> rfl
@[simp] theorem State.advanceTo_resetCause (s : State) (tick : Nat) :
    (s.advanceTo tick).resetCause = s.resetCause := by
  unfold State.advanceTo; split <;> rfl
@[simp] theorem State.advanceTo_lineIn (s : State) (tick : Nat) :
    (s.advanceTo tick).lineIn = s.lineIn := by
  unfold State.advanceTo; split <;> rfl
@[simp] theorem State.advanceTo_rates (s : State) (tick : Nat) :
    (s.advanceTo tick).rates = s.rates := by
  unfold State.advanceTo; split <;> rfl
@[simp] theorem State.advanceTo_chans (s : State) (tick : Nat) :
    (s.advanceTo tick).chans = s.chans := by
  unfold State.advanceTo; split <;> rfl
@[simp] theorem State.advanceTo_trial (s : State) (tick : Nat) :
    (s.advanceTo tick).trial = s.trial := by
  unfold State.advanceTo; split <;> rfl
@[simp] theorem State.advanceTo_pools (s : State) (tick : Nat) :
    (s.advanceTo tick).pools = s.pools := by
  unfold State.advanceTo; split <;> rfl
@[simp] theorem State.advanceTo_leaseCounter (s : State) (tick : Nat) :
    (s.advanceTo tick).leaseCounter = s.leaseCounter := by
  unfold State.advanceTo; split <;> rfl
@[simp] theorem State.advanceTo_notices (s : State) (tick : Nat) :
    (s.advanceTo tick).notices = s.notices := by
  unfold State.advanceTo; split <;> rfl
@[simp] theorem State.advanceTo_link (s : State) (tick : Nat) :
    (s.advanceTo tick).link = s.link := by
  unfold State.advanceTo; split <;> rfl
@[simp] theorem State.advanceTo_pending (s : State) (tick : Nat) :
    (s.advanceTo tick).pending = s.pending := by
  unfold State.advanceTo; split <;> rfl

/-- Time never runs back, and a tick still to come is reached. -/
theorem State.advanceTo_now (s : State) (tick : Nat) : (s.advanceTo tick).now = max s.now tick := by
  unfold State.advanceTo
  split
  · rename_i h; simp only [State.now] at *; omega
  · rename_i h; simp only [State.now, TimeBase.movedTo] at *; omega

/-! ### The link -/

@[simp] theorem State.chan_modLink (s : State) (f : HostLink → HostLink) (d : Channel) :
    (s.modLink f).chan d = s.chan d := rfl
@[simp] theorem State.modLink_resetAsserted (s : State) (f : HostLink → HostLink) :
    (s.modLink f).resetAsserted = s.resetAsserted := rfl
@[simp] theorem State.modLink_resetCause (s : State) (f : HostLink → HostLink) :
    (s.modLink f).resetCause = s.resetCause := rfl
@[simp] theorem State.modLink_lineIn (s : State) (f : HostLink → HostLink) :
    (s.modLink f).lineIn = s.lineIn := rfl
@[simp] theorem State.modLink_time (s : State) (f : HostLink → HostLink) :
    (s.modLink f).time = s.time := rfl
@[simp] theorem State.modLink_rates (s : State) (f : HostLink → HostLink) :
    (s.modLink f).rates = s.rates := rfl
@[simp] theorem State.modLink_chans (s : State) (f : HostLink → HostLink) :
    (s.modLink f).chans = s.chans := rfl
@[simp] theorem State.modLink_trial (s : State) (f : HostLink → HostLink) :
    (s.modLink f).trial = s.trial := rfl
@[simp] theorem State.modLink_pools (s : State) (f : HostLink → HostLink) :
    (s.modLink f).pools = s.pools := rfl
@[simp] theorem State.modLink_leaseCounter (s : State) (f : HostLink → HostLink) :
    (s.modLink f).leaseCounter = s.leaseCounter := rfl
@[simp] theorem State.modLink_notices (s : State) (f : HostLink → HostLink) :
    (s.modLink f).notices = s.notices := rfl
@[simp] theorem State.modLink_pending (s : State) (f : HostLink → HostLink) :
    (s.modLink f).pending = s.pending := rfl

@[simp] theorem State.chan_modReceiver (s : State) (f : Receiver → Receiver) (d : Channel) :
    (s.modReceiver f).chan d = s.chan d := rfl
@[simp] theorem State.modReceiver_resetAsserted (s : State) (f : Receiver → Receiver) :
    (s.modReceiver f).resetAsserted = s.resetAsserted := rfl
@[simp] theorem State.modReceiver_resetCause (s : State) (f : Receiver → Receiver) :
    (s.modReceiver f).resetCause = s.resetCause := rfl
@[simp] theorem State.modReceiver_lineIn (s : State) (f : Receiver → Receiver) :
    (s.modReceiver f).lineIn = s.lineIn := rfl
@[simp] theorem State.modReceiver_time (s : State) (f : Receiver → Receiver) :
    (s.modReceiver f).time = s.time := rfl
@[simp] theorem State.modReceiver_rates (s : State) (f : Receiver → Receiver) :
    (s.modReceiver f).rates = s.rates := rfl
@[simp] theorem State.modReceiver_chans (s : State) (f : Receiver → Receiver) :
    (s.modReceiver f).chans = s.chans := rfl
@[simp] theorem State.modReceiver_trial (s : State) (f : Receiver → Receiver) :
    (s.modReceiver f).trial = s.trial := rfl
@[simp] theorem State.modReceiver_pools (s : State) (f : Receiver → Receiver) :
    (s.modReceiver f).pools = s.pools := rfl
@[simp] theorem State.modReceiver_leaseCounter (s : State) (f : Receiver → Receiver) :
    (s.modReceiver f).leaseCounter = s.leaseCounter := rfl
@[simp] theorem State.modReceiver_notices (s : State) (f : Receiver → Receiver) :
    (s.modReceiver f).notices = s.notices := rfl
@[simp] theorem State.modReceiver_pending (s : State) (f : Receiver → Receiver) :
    (s.modReceiver f).pending = s.pending := rfl

@[simp] theorem State.chan_popInbox (s : State) (d : Channel) :
    (s.popInbox).chan d = s.chan d := rfl
@[simp] theorem State.popInbox_resetAsserted (s : State) :
    (s.popInbox).resetAsserted = s.resetAsserted := rfl
@[simp] theorem State.popInbox_resetCause (s : State) :
    (s.popInbox).resetCause = s.resetCause := rfl
@[simp] theorem State.popInbox_lineIn (s : State) :
    (s.popInbox).lineIn = s.lineIn := rfl
@[simp] theorem State.popInbox_time (s : State) :
    (s.popInbox).time = s.time := rfl
@[simp] theorem State.popInbox_rates (s : State) :
    (s.popInbox).rates = s.rates := rfl
@[simp] theorem State.popInbox_chans (s : State) :
    (s.popInbox).chans = s.chans := rfl
@[simp] theorem State.popInbox_trial (s : State) :
    (s.popInbox).trial = s.trial := rfl
@[simp] theorem State.popInbox_pools (s : State) :
    (s.popInbox).pools = s.pools := rfl
@[simp] theorem State.popInbox_leaseCounter (s : State) :
    (s.popInbox).leaseCounter = s.leaseCounter := rfl
@[simp] theorem State.popInbox_notices (s : State) :
    (s.popInbox).notices = s.notices := rfl
@[simp] theorem State.popInbox_pending (s : State) :
    (s.popInbox).pending = s.pending := rfl

@[simp] theorem State.chan_respond (s : State) (kind : Byte) (f : Frame) (body : List Byte) (d : Channel) :
    (s.respond kind f body).chan d = s.chan d := rfl
@[simp] theorem State.respond_resetAsserted (s : State) (kind : Byte) (f : Frame) (body : List Byte) :
    (s.respond kind f body).resetAsserted = s.resetAsserted := rfl
@[simp] theorem State.respond_resetCause (s : State) (kind : Byte) (f : Frame) (body : List Byte) :
    (s.respond kind f body).resetCause = s.resetCause := rfl
@[simp] theorem State.respond_lineIn (s : State) (kind : Byte) (f : Frame) (body : List Byte) :
    (s.respond kind f body).lineIn = s.lineIn := rfl
@[simp] theorem State.respond_time (s : State) (kind : Byte) (f : Frame) (body : List Byte) :
    (s.respond kind f body).time = s.time := rfl
@[simp] theorem State.respond_rates (s : State) (kind : Byte) (f : Frame) (body : List Byte) :
    (s.respond kind f body).rates = s.rates := rfl
@[simp] theorem State.respond_chans (s : State) (kind : Byte) (f : Frame) (body : List Byte) :
    (s.respond kind f body).chans = s.chans := rfl
@[simp] theorem State.respond_trial (s : State) (kind : Byte) (f : Frame) (body : List Byte) :
    (s.respond kind f body).trial = s.trial := rfl
@[simp] theorem State.respond_pools (s : State) (kind : Byte) (f : Frame) (body : List Byte) :
    (s.respond kind f body).pools = s.pools := rfl
@[simp] theorem State.respond_leaseCounter (s : State) (kind : Byte) (f : Frame) (body : List Byte) :
    (s.respond kind f body).leaseCounter = s.leaseCounter := rfl
@[simp] theorem State.respond_notices (s : State) (kind : Byte) (f : Frame) (body : List Byte) :
    (s.respond kind f body).notices = s.notices := rfl
@[simp] theorem State.respond_pending (s : State) (kind : Byte) (f : Frame) (body : List Byte) :
    (s.respond kind f body).pending = s.pending := rfl

@[simp] theorem State.chan_startFrame (s : State) (kind tag channel : Byte) (body : List Byte) (d : Channel) :
    (s.startFrame kind tag channel body).chan d = s.chan d := rfl
@[simp] theorem State.startFrame_resetAsserted (s : State) (kind tag channel : Byte) (body : List Byte) :
    (s.startFrame kind tag channel body).resetAsserted = s.resetAsserted := rfl
@[simp] theorem State.startFrame_resetCause (s : State) (kind tag channel : Byte) (body : List Byte) :
    (s.startFrame kind tag channel body).resetCause = s.resetCause := rfl
@[simp] theorem State.startFrame_lineIn (s : State) (kind tag channel : Byte) (body : List Byte) :
    (s.startFrame kind tag channel body).lineIn = s.lineIn := rfl
@[simp] theorem State.startFrame_time (s : State) (kind tag channel : Byte) (body : List Byte) :
    (s.startFrame kind tag channel body).time = s.time := rfl
@[simp] theorem State.startFrame_rates (s : State) (kind tag channel : Byte) (body : List Byte) :
    (s.startFrame kind tag channel body).rates = s.rates := rfl
@[simp] theorem State.startFrame_chans (s : State) (kind tag channel : Byte) (body : List Byte) :
    (s.startFrame kind tag channel body).chans = s.chans := rfl
@[simp] theorem State.startFrame_trial (s : State) (kind tag channel : Byte) (body : List Byte) :
    (s.startFrame kind tag channel body).trial = s.trial := rfl
@[simp] theorem State.startFrame_pools (s : State) (kind tag channel : Byte) (body : List Byte) :
    (s.startFrame kind tag channel body).pools = s.pools := rfl
@[simp] theorem State.startFrame_leaseCounter (s : State) (kind tag channel : Byte) (body : List Byte) :
    (s.startFrame kind tag channel body).leaseCounter = s.leaseCounter := rfl
@[simp] theorem State.startFrame_notices (s : State) (kind tag channel : Byte) (body : List Byte) :
    (s.startFrame kind tag channel body).notices = s.notices := rfl
@[simp] theorem State.startFrame_pending (s : State) (kind tag channel : Byte) (body : List Byte) :
    (s.startFrame kind tag channel body).pending = s.pending := rfl

@[simp] theorem State.modLink_link (s : State) (f : HostLink → HostLink) :
    (s.modLink f).link = f s.link := rfl

/-! ### The Trial Unit -/

@[simp] theorem State.chan_setTrial (s : State) (t : Trial) (d : Channel) :
    (s.setTrial t).chan d = s.chan d := rfl
@[simp] theorem State.setTrial_resetAsserted (s : State) (t : Trial) :
    (s.setTrial t).resetAsserted = s.resetAsserted := rfl
@[simp] theorem State.setTrial_resetCause (s : State) (t : Trial) :
    (s.setTrial t).resetCause = s.resetCause := rfl
@[simp] theorem State.setTrial_lineIn (s : State) (t : Trial) :
    (s.setTrial t).lineIn = s.lineIn := rfl
@[simp] theorem State.setTrial_time (s : State) (t : Trial) :
    (s.setTrial t).time = s.time := rfl
@[simp] theorem State.setTrial_rates (s : State) (t : Trial) :
    (s.setTrial t).rates = s.rates := rfl
@[simp] theorem State.setTrial_chans (s : State) (t : Trial) :
    (s.setTrial t).chans = s.chans := rfl
@[simp] theorem State.setTrial_pools (s : State) (t : Trial) :
    (s.setTrial t).pools = s.pools := rfl
@[simp] theorem State.setTrial_leaseCounter (s : State) (t : Trial) :
    (s.setTrial t).leaseCounter = s.leaseCounter := rfl
@[simp] theorem State.setTrial_notices (s : State) (t : Trial) :
    (s.setTrial t).notices = s.notices := rfl
@[simp] theorem State.setTrial_link (s : State) (t : Trial) :
    (s.setTrial t).link = s.link := rfl
@[simp] theorem State.setTrial_pending (s : State) (t : Trial) :
    (s.setTrial t).pending = s.pending := rfl

@[simp] theorem State.leaveQueue_resetAsserted (s : State) (c : Channel) :
    (s.leaveQueue c).resetAsserted = s.resetAsserted := rfl
@[simp] theorem State.leaveQueue_resetCause (s : State) (c : Channel) :
    (s.leaveQueue c).resetCause = s.resetCause := rfl
@[simp] theorem State.leaveQueue_lineIn (s : State) (c : Channel) :
    (s.leaveQueue c).lineIn = s.lineIn := rfl
@[simp] theorem State.leaveQueue_time (s : State) (c : Channel) :
    (s.leaveQueue c).time = s.time := rfl
@[simp] theorem State.leaveQueue_rates (s : State) (c : Channel) :
    (s.leaveQueue c).rates = s.rates := rfl
@[simp] theorem State.leaveQueue_chans (s : State) (c : Channel) :
    (s.leaveQueue c).chans = s.chans := rfl
@[simp] theorem State.leaveQueue_pools (s : State) (c : Channel) :
    (s.leaveQueue c).pools = s.pools := rfl
@[simp] theorem State.leaveQueue_leaseCounter (s : State) (c : Channel) :
    (s.leaveQueue c).leaseCounter = s.leaseCounter := rfl
@[simp] theorem State.leaveQueue_notices (s : State) (c : Channel) :
    (s.leaveQueue c).notices = s.notices := rfl
@[simp] theorem State.leaveQueue_link (s : State) (c : Channel) :
    (s.leaveQueue c).link = s.link := rfl
@[simp] theorem State.leaveQueue_pending (s : State) (c : Channel) :
    (s.leaveQueue c).pending = s.pending := rfl

end Sys2Proof.Machine
end

