-- ==== Sys2Proof/Laws/Ops.lean ====
section
/-! SUPPORT. What each shared operation does, said once: the provers cite these and unfold no
operation. -/

namespace Sys2Proof.Machine

/-! ### Commands and time -/

/-- While the device runs a command is carried out. -/
theorem whileRunning_running {s : State} (h : s.resetAsserted = false) (f : State → State) :
    s.whileRunning f = .next (f s) := by
  simp [State.whileRunning, State.running, h]

/-- While RESET is asserted a command changes nothing. -/
theorem whileRunning_asserted {s : State} (h : s.resetAsserted = true) (f : State → State) :
    s.whileRunning f = .next s := by
  simp [State.whileRunning, State.running, h]

/-- The Time Base stands at the later of now and the instant. -/
theorem advanceTo_ticks (s : State) (tick : Nat) :
    (s.advanceTo tick).time.ticks = max s.time.ticks tick := by
  by_cases h : tick ≤ s.time.ticks
  · simp [State.advanceTo, h]
  · simp [State.advanceTo, h, TimeBase.movedTo]; omega

/-- Time already passed does not pass again. -/
theorem advanceTo_past {s : State} {tick : Nat} (h : tick ≤ s.time.ticks) :
    s.advanceTo tick = s := by
  simp [State.advanceTo, h]

/-! ### Notices -/

/-- The slots after a post: the slot joins at the end unless it is there. -/
theorem postTo_slots (slot : Slot) (v : NoticeValues) (us : Nat) (ns : List Notice) :
    (postTo slot v us ns).map Notice.slot =
      if slot ∈ ns.map Notice.slot then ns.map Notice.slot else ns.map Notice.slot ++ [slot] := by
  induction ns with
  | nil => simp [postTo]
  | cons n rest ih =>
    by_cases h : n.slot = slot
    · simp [postTo, h, Notice.merged]
    · have h' : ¬slot = n.slot := fun e => h e.symm
      by_cases hm : slot ∈ rest.map Notice.slot
      · simp only [postTo, h, if_false, List.map_cons, ih, hm, if_true]
        simp only [List.mem_cons, hm, or_true, if_true]
      · simp only [postTo, h, if_false, List.map_cons, ih, hm]
        simp only [List.mem_cons, hm, h', or_self, if_false, List.cons_append]

/-- A post reads the channels, the time and the other blocks of nothing but the table and the time:
two states that agree on those post alike. -/
theorem post_notices_congr {s t : State} (hn : s.notices = t.notices) (ht : s.time = t.time)
    (slot : Slot) (v : NoticeValues) : (s.post slot v).notices = (t.post slot v).notices := by
  simp [State.post, State.now, hn, ht]

/-! ### Fill state, segments and descriptors -/

/-- R120, R122: an evaluation that leaves the fill state as it was does nothing. -/
theorem evaluateFill_same {s : State} {c : Channel}
    (h : fillAfter (s.chan c).store.held (s.chan c).config.highMark (s.chan c).config.lowMark
      (s.chan c).store.fill = (s.chan c).store.fill) : s.evaluateFill c = s := by
  simp [State.evaluateFill, h]

/-- R120, R122: a crossing sets the fill state and HOLD and posts FILL, and does nothing else. -/
theorem evaluateFill_crossing {s : State} {c : Channel} {fill : Fill}
    (hf : fillAfter (s.chan c).store.held (s.chan c).config.highMark (s.chan c).config.lowMark
      (s.chan c).store.fill = fill) (h : fill ≠ (s.chan c).store.fill) :
    s.evaluateFill c =
      (s.modStore c fun st =>
        { st with
          fill := fill
          hold := (s.chan c).config.holdEnable && decide ((s.chan c).config.mode = .listen) &&
            decide (fill = .high) }).postChan c .fill (.fill 1) := by
  simp only [State.evaluateFill, hf, h, if_false]
  simp [State.setHold, State.modStore, State.postChan, State.post, State.modChan, State.chan,
    Chan.holdDue]
  rfl

/-- R113: a free descriptor is granted and leaves the pool. -/
theorem askDescriptor_granted {s : State} (h : 0 < s.pools.freeDescriptors) :
    s.askDescriptor =
      ({ s with pools :=
          { s.pools with freeDescriptors := s.pools.freeDescriptors - 1 } }, true) := by
  simp [State.askDescriptor, h]

/-- R113: with no free descriptor the refusal is counted. -/
theorem askDescriptor_refused {s : State} (h : s.pools.freeDescriptors = 0) :
    s.askDescriptor =
      ({ s with pools :=
          { s.pools with
            descriptorRefusals := count32 s.pools.descriptorRefusals 1 } }, false) := by
  simp [State.askDescriptor, h]

/-- R111, R112: at the cap the refusal is counted and nothing else happens. -/
theorem askSegment_cap {s : State} {c : Channel}
    (h : (s.chan c).config.segmentCap ≤ (s.chan c).store.held) :
    s.askSegment c =
      ({ s with pools :=
          { s.pools with capRefusals := count32 s.pools.capRefusals 1 } }, false) := by
  simp [State.askSegment, segmentAnswer, h]

/-- R111, R112: below the cap with an empty pool the refusal is counted and POOL posted. -/
theorem askSegment_pool {s : State} {c : Channel}
    (h : (s.chan c).store.held < (s.chan c).config.segmentCap)
    (hp : s.pools.freeSegments = 0) :
    s.askSegment c =
      ({ s with pools :=
          { s.pools with poolRefusals := count32 s.pools.poolRefusals 1 } }.post
        (.device .pool) (.pool 1), false) := by
  simp [State.askSegment, segmentAnswer, Nat.not_le.2 h, hp]

/-- R111: otherwise a segment moves from the pool to the channel, and the fill state is evaluated. -/
theorem askSegment_granted {s : State} {c : Channel}
    (h : (s.chan c).store.held < (s.chan c).config.segmentCap)
    (hp : 0 < s.pools.freeSegments) :
    s.askSegment c =
      (({ s with pools :=
          { s.pools with freeSegments := s.pools.freeSegments - 1 } }.modStore c fun st =>
            { st with held := st.held + 1 }).evaluateFill c, true) := by
  simp [State.askSegment, segmentAnswer, Nat.not_le.2 h, Nat.pos_iff_ne_zero.1 hp]

/-- R117: freeing nothing changes nothing. -/
@[simp] theorem freeRecords_nil (s : State) (c : Channel) : s.freeRecords c [] = s := rfl

/-- R117: the freed records' segments and descriptors return, and the fill state is evaluated
once. -/
theorem freeRecords_cons (s : State) (c : Channel) (r : Record) (rs : List Record) :
    s.freeRecords c (r :: rs) =
      { s.modStore c fun st => { st with held := st.held - segmentSum (r :: rs) } with
        pools :=
          { s.pools with
            freeSegments := s.pools.freeSegments + segmentSum (r :: rs)
            freeDescriptors :=
              s.pools.freeDescriptors + (r :: rs).length } }.evaluateFill c := rfl

/-! ### Closure (R99, R100, R114, R115) -/

/-- With no record open there is nothing to close. -/
theorem closeRecord_none {s : State} {c : Channel} (h : (s.chan c).openRecord? = none)
    (cause : Cause) (t : BitVec 32) : s.closeRecord c cause t = s := by
  simp [State.closeRecord, h]

/-- R100: an empty record returns its descriptor and is not handed over. -/
theorem closeRecord_empty {s : State} {c : Channel} {r : OpenRecord}
    (h : (s.chan c).openRecord? = some r) (he : r.isEmpty = true) (cause : Cause)
    (t : BitVec 32) :
    s.closeRecord c cause t =
      ((s.modFramer c fun f => { f with state := .between }).freeEmpty r).applyAtClosure c := by
  simp [State.closeRecord, h, he]

/-- R99: any other record is handed over. -/
theorem closeRecord_handOver {s : State} {c : Channel} {r : OpenRecord}
    (h : (s.chan c).openRecord? = some r) (he : r.isEmpty = false) (cause : Cause)
    (t : BitVec 32) :
    s.closeRecord c cause t =
      ((s.modFramer c fun f => { f with state := .between }).handOver c r cause t).applyAtClosure
        c := by
  simp [State.closeRecord, h, he]

/-- R114, R115: the hand-over of a record with a descriptor. -/
theorem handOver_queued {s : State} {c : Channel} {r : OpenRecord} (h : r.hasDescriptor = true)
    (cause : Cause) (t : BitVec 32) :
    s.handOver c r cause t =
      (s.modChan c fun k =>
        { k with
          store :=
            { k.store with
              nextSeq := k.store.nextSeq + 1
              queue := k.store.queue ++ [r.closed c k.store.nextSeq cause t] }
          stats :=
            { k.stats with
              recordsClosed := count32 k.stats.recordsClosed 1
              bytesStored := count32 k.stats.bytesStored r.bytes.length
              bytesLost := count32 k.stats.bytesLost r.lost } }).postChan c .ready .ready := by
  simp [State.handOver, h, State.modStore, State.modStats, State.modChan, State.chan]

/-- R114, R115: the hand-over of a dropped record. -/
theorem handOver_dropped {s : State} {c : Channel} {r : OpenRecord} (h : r.hasDescriptor = false)
    (cause : Cause) (t : BitVec 32) :
    s.handOver c r cause t =
      (s.modChan c fun k =>
        { k with
          store :=
            { k.store with
              nextSeq := k.store.nextSeq + 1
              lastDropped := some k.store.nextSeq }
          stats :=
            { k.stats with
              recordsDropped := count32 k.stats.recordsDropped 1
              bytesLost := count32 k.stats.bytesLost r.lost } }).postChan c .dropped
        (.dropped 1) := by
  simp [State.handOver, h, State.modStore, State.modStats, State.modChan, State.chan]

/-- R99, step 3: the pending update at a closure. -/
theorem applyAtClosure_eq (s : State) (c : Channel) :
    s.applyAtClosure c =
      s.modChan c fun k => if k.pendingUpdate then k.applyBetween else k := by
  by_cases h : (s.chan c).pendingUpdate = true
  · simp [State.applyAtClosure, h, State.modChan]
  · rw [State.modChan_same]
    · simp [State.applyAtClosure, h]
    · simp [h]

/-! ### The Trial Unit (R49, R50, R68) -/

/-- R49: a busy unit takes nothing. -/
theorem takeHead_busy {s : State} {t : Trial} (h : s.trial.service = some t) : s.takeHead = s := by
  simp [State.takeHead, h]

/-- R49: with nothing queued nothing is taken. -/
theorem takeHead_empty {s : State} (h : s.trial.queue = []) : s.takeHead = s := by
  unfold State.takeHead
  split
  · simp_all
  · rfl
  · rfl

/-- R49, R51: the free unit takes the head into TRIAL with its copies. -/
theorem takeHead_taken {s : State} {c : Channel} {rest : List Channel}
    (h : s.trial.service = none) (hq : s.trial.queue = c :: rest) :
    s.takeHead =
      { s.modCtl c (fun d => { d with lock := .trial }) with
        trial :=
          { service := some (newTrial c ((s.chan c).snapshot s.rates)), queue := rest } } := by
  simp [State.takeHead, h, hq]

/-- R50: giving up a queue place alone. -/
theorem giveUpTrial_notServed {s : State} {c : Channel} (h : s.inService c = false) :
    s.giveUpTrial c = s.leaveQueue c := by
  unfold State.inService at h
  rcases ht : s.trial.service with _ | t
  · simp [State.giveUpTrial, State.abandonTrial, State.leaveQueue, ht]
  · rw [ht] at h
    simp at h
    simp [State.giveUpTrial, State.abandonTrial, State.leaveQueue, ht, h]

/-- R68: a trial in service abandoned with its report, the unit free. -/
theorem giveUpTrial_served {s : State} {c : Channel} {t : Trial} (h : s.trial.service = some t)
    (hc : t.channel = c) :
    s.giveUpTrial c =
      { s.modChan c (fun k =>
          { k with
            ctl :=
              { k.ctl with
                report := some (t.report { outcome := .abandoned, chosen := none } s.deviceNow) }
            stats :=
              { k.stats with abandonedTrials := count32 k.stats.abandonedTrials 1 } }) with
        trial :=
          { service := none
            queue := s.trial.queue.filter fun d => decide (d ≠ c) } } := by
  simp [State.giveUpTrial, State.abandonTrial, State.leaveQueue, h, hc, State.deviceNow]
  rfl

/-! ### The outbound arbiter (R177) -/

/-- R177: in the SPI selection nothing starts at once. -/
theorem startsAtOnce_spi {l : HostLink} (h : l.selection = .spi) : l.startsAtOnce = false := by
  simp [HostLink.startsAtOnce, h]

/-- R177: a UART with nothing on the path and no soft restart due starts a frame at once. -/
theorem startsAtOnce_uart {l : HostLink} (h : l.selection ≠ .spi) :
    l.startsAtOnce = l.atBoundary := by
  simp [HostLink.startsAtOnce, h]

/-- R177: with a frame on the path the arbiter decides nothing. -/
theorem arbiterDecide_sending {s : State} (h : s.link.transmit ≠ none) : s.arbiterDecide = s := by
  cases ht : s.link.transmit <;> simp_all [State.arbiterDecide, HostLink.atBoundary]

/-- R177, R178: with the soft restart due the arbiter decides nothing. -/
theorem arbiterDecide_due {s : State} (h : s.link.restart = .due) : s.arbiterDecide = s := by
  simp [State.arbiterDecide, HostLink.atBoundary, h]

/-- R177: at a boundary the response goes first. -/
theorem arbiterDecide_response {s : State} {r : Response} {rest : List Response}
    (ht : s.link.transmit = none) (hd : s.link.restart ≠ .due)
    (hr : s.link.responses = r :: rest) :
    s.arbiterDecide =
      (s.modLink fun l => { l with responses := rest }).startFrame r.kind r.tag r.channel
        r.body := by
  simp [State.arbiterDecide, HostLink.atBoundary, State.sendResponse, ht, hd, hr]

/-! ### Gaps and characters (R81, R92) -/

/-- The ticks before an instant are those before the first tick at or after it. -/
theorem lt_ceil_iff {x : Instant} (h : 0 < x.den) (t : Nat) : t < x.ceil ↔ x.after t = true := by
  simp only [Instant.ceil, Instant.after, decide_eq_true_eq]
  rw [Nat.lt_iff_add_one_le, Nat.le_div_iff_mul_le h, Nat.add_mul]
  omega

/-- R92: an expiry that waits cannot be taken. -/
theorem gapReady_waits {k : Chan} {x : Instant} (ht : k.framer.gapTimer = some x)
    (h : k.GapWaits x) : k.gapReady = none := by
  unfold Chan.gapReady
  rw [ht]
  rcases h with ⟨t, per, hd | hd, hx⟩ | ⟨d, hd, hx⟩ <;>
    (split <;> simp_all [Sampler.holdsGap, Sampler.unsettledBefore, Instant.after])

/-- R92: outside IDLE an expiry that does not wait can be taken. -/
theorem gapReady_ready {k : Chan} {x : Instant} (ht : k.framer.gapTimer = some x)
    (hf : k.framer.state ≠ .idle) (h : ¬k.GapWaits x) : k.gapReady = some x := by
  have hs : k.sampler.holdsGap x = false := by
    unfold Sampler.holdsGap
    split <;> rename_i hd
    · simpa [Instant.after] using fun hx => h (.inl ⟨_, _, .inl hd, hx⟩)
    · simpa [Instant.after] using fun hx => h (.inl ⟨_, _, .inr hd, hx⟩)
    all_goals rfl
  have hp : k.sampler.unsettledBefore x = false := by
    unfold Sampler.unsettledBefore
    split <;> rename_i hd
    · simpa [Instant.after] using fun hx => h (.inr ⟨_, hd, hx⟩)
    · rfl
  unfold Chan.gapReady
  rw [ht]
  cases hst : k.framer.state <;> simp_all

/-- R92: a character whose start edge lies before the expiry instant holds the expiry. -/
theorem takeHeldGap_held {s : State} {c : Channel} {t per : Nat}
    (hd : (s.chan c).sampler.decode = .sampling t per ∨
      (s.chan c).sampler.decode = .spaceHeld t per)
    (hg : ∀ y, (s.chan c).framer.gapTimer = some y → y.after t = true) : s.takeHeldGap c = s := by
  have : (s.chan c).gapReady = none := by
    unfold Chan.gapReady
    split <;> try rfl
    all_goals
      rename_i h
      rcases hd with hd | hd <;> simp [Sampler.holdsGap, hd, hg _ h]
  simp [State.takeHeldGap, this]

/-! ### The bit clock -/

/-- R77: a period in its range is not 0. -/
theorem periodInRange.pos {nominal p : Nat} (h : periodInRange nominal p) : 0 < p := by
  rcases Nat.eq_zero_or_pos p with rfl | hp
  · exact absurd h.1 (by simp)
  · exact hp

/-- R77: the character in hand has a period greater than 0. -/
theorem Chan.PeriodLaw.character_pos {k : Chan} (h : k.PeriodLaw) {t per : Nat}
    (hd : k.sampler.decode = .sampling t per ∨ k.sampler.decode = .spaceHeld t per) : 0 < per :=
  (h.character t per hd).pos

end Sys2Proof.Machine
end

