-- ==== Sys2Proof/Laws/Requests.lean ====
section
/-! SUPPORT. What taking a request does: one lemma for each shared operation of R174 to R176. -/

namespace Sys2Proof.Machine

/-- A request command whose frame is the inbox head handles it, the inbox left with the rest. -/
theorem takeRequest_of_canTake {s : State} {f : Frame} {rest : List Frame} {i : Instr}
    (h : s.CanTake f rest) (hi : requestOf f.kind = i) (handle : Frame → State → State) :
    s.takeRequest i handle = .next (handle f s.popInbox) := by
  simp [State.takeRequest, State.whileRunning, State.running, h.running, State.requestFor,
    h.dispatching, h.room, h.head, hi]

/-- A request command whose frame cannot be taken changes nothing. -/
theorem takeRequest_none {s : State} {i : Instr} (h : s.requestFor i = none)
    (handle : Frame → State → State) : s.takeRequest i handle = .next s := by
  simp [State.takeRequest, State.whileRunning, h]

/-- Every request command answers a next state: the state itself, or what its handler makes of the
inbox head. -/
theorem takeRequest_cases (s : State) (i : Instr) (handle : Frame → State → State) :
    s.takeRequest i handle = .next s ∨
      ∃ f rest, s.CanTake f rest ∧ requestOf f.kind = i ∧
        s.takeRequest i handle = .next (handle f s.popInbox) := by
  rcases hr : s.resetAsserted with _ | _
  · rcases hf : s.requestFor i with _ | f
    · exact .inl (takeRequest_none hf handle)
    · right
      unfold State.requestFor at hf
      split at hf
      · rename_i hg
        split at hf
        · rename_i g rest hin
          split at hf
          · rename_i hk
            cases hf
            have hc : s.CanTake f rest := ⟨hr, hg.1, hg.2, hin⟩
            exact ⟨f, rest, hc, hk, takeRequest_of_canTake hc hk handle⟩
          · cases hf
        · cases hf
      · cases hf
  · exact .inl (by simp [State.takeRequest, State.whileRunning, State.running, hr])

@[simp] theorem popInbox_inbox (s : State) : s.popInbox.link.inbox = s.link.inbox.tail := rfl
@[simp] theorem popInbox_responses (s : State) : s.popInbox.link.responses = s.link.responses := rfl
@[simp] theorem popInbox_cache (s : State) : s.popInbox.link.cache = s.link.cache := rfl

/-- R175: the plain answer to a request that has been taken. -/
theorem respond_popInbox {s : State} {f : Frame} {rest : List Frame} (h : s.CanTake f rest)
    (body : List Byte) : s.popInbox.respond (f.kind + 0x80#8) f body = s.replied f rest body := by
  simp [State.respond, State.popInbox, State.modLink, State.replied, HostLink.answered, responseTo,
    h.head]

/-- R174: a refusal answers the result code alone. -/
theorem refuseRequest_popInbox {s : State} {f : Frame} {rest : List Frame} (h : s.CanTake f rest)
    (r : Result) : s.popInbox.refuseRequest f r = s.replied f rest [r.code] :=
  respond_popInbox h _

/-- R174: a device request of the right shape goes on. -/
theorem deviceRequest_go {f : Frame} {n : Nat} (hb : f.body.length = n) (hc : f.channel = 0xFF#8)
    (s : State) (go : State → State) : s.deviceRequest f n go = go s := by
  simp [State.deviceRequest, hb, hc]

theorem channelOfField_ofNat (c : Channel) : channelOfField (BitVec.ofNat 8 c.val) = some c := by
  revert c; decide

/-- R174: a channel request of the right shape goes on, on its channel. -/
theorem channelRequest_go {f : Frame} {n : Nat} {c : Channel} (hb : f.body.length = n)
    (hc : f.channel = BitVec.ofNat 8 c.val) (s : State) (go : Channel → State → State) :
    s.channelRequest f n go = go c s := by
  simp [State.channelRequest, hb, hc, channelOfField_ofNat]

/-- R174: a device request of the right shape is handed to its owner, the inbox left with the rest. -/
theorem takeRequest_device {s : State} {f : Frame} {rest : List Frame} {i : Instr} {n : Nat}
    (h : s.CanTake f rest) (hi : requestOf f.kind = i) (hb : f.body.length = n)
    (hc : f.channel = 0xFF#8) (go : Frame → State → State) :
    (s.takeRequest i fun f s => s.deviceRequest f n fun s => go f s) = .next (go f s.popInbox) := by
  rw [takeRequest_of_canTake h hi, deviceRequest_go hb hc]

/-- R174: a channel request of the right shape is handed to its owner, on its channel. -/
theorem takeRequest_channel {s : State} {f : Frame} {rest : List Frame} {i : Instr} {n : Nat}
    {c : Channel} (h : s.CanTake f rest) (hi : requestOf f.kind = i) (hb : f.body.length = n)
    (hc : f.channel = BitVec.ofNat 8 c.val) (go : Frame → Channel → State → State) :
    (s.takeRequest i fun f s => s.channelRequest f n fun c s => go f c s) =
      .next (go f c s.popInbox) := by
  rw [takeRequest_of_canTake h hi, channelRequest_go hb hc]

/-- R176: a request that no entry recognises is executed. -/
theorem executeMutating_fresh {s : State} {f : Frame} (h : s.Fresh f) (run : State → Reply) :
    s.executeMutating f run = s.executeCached f run := by
  have : cacheHit s.link.cache f = none := by
    simp only [cacheHit, List.find?_eq_none, CacheEntry.isOf, Bool.and_eq_true, decide_eq_true_eq,
      not_and]
    exact fun e he h1 h2 => h e he ⟨h1.1.1, h1.1.2, h1.2, h2⟩
  simp [State.executeMutating, this]

/-- R176: with distinct tags, the entry that recognises `f` is the one found. -/
theorem cacheHit_eq {cache : List CacheEntry} {f : Frame} {e : CacheEntry}
    (hn : (cache.map CacheEntry.tag).Nodup) (he : e ∈ cache) (ht : e.tag = f.tag)
    (hk : e.kind = f.kind) (hc : e.channel = f.channel) (hx : e.check = f.check) :
    cacheHit cache f = some e := by
  induction cache with
  | nil => cases he
  | cons d rest ih =>
    simp only [List.map_cons, List.nodup_cons] at hn
    by_cases hd : d.isOf f = true
    · have hdt : d.tag = f.tag := by simp [CacheEntry.isOf] at hd; exact hd.1.1.1
      rcases List.mem_cons.1 he with rfl | hm
      · simp [cacheHit, hd]
      · exact absurd (List.mem_map.2 ⟨e, hm, by rw [ht, hdt]⟩) hn.1
    · rcases List.mem_cons.1 he with rfl | hm
      · exact absurd (by simp [CacheEntry.isOf, ht, hk, hc, hx]) hd
      · have := ih hn.2 hm
        simp only [cacheHit, List.find?_cons] at this ⊢
        simp [hd, this]

/-- R176: an executed mutating request answers, and enters its answer in the cache. -/
theorem executeCached_eq (s : State) (f : Frame) (run : State → Reply) :
    s.executeCached f run =
      { (run s).state with
        link :=
          { (run s).state.link with
            cache := cacheAfter (run s).state.link.cache f (run s).body
            responses := (run s).state.link.responses ++ [responseTo f (run s).body] } } := rfl

/-- A request that is not mutating answers, and leaves the cache alone. -/
theorem executePlain_eq (s : State) (f : Frame) (run : State → Reply) :
    s.executePlain f run =
      { (run s).state with
        link :=
          { (run s).state.link with
            responses := (run s).state.link.responses ++ [responseTo f (run s).body] } } := rfl

end Sys2Proof.Machine
end

