-- ==== Sys2Proof/WellFormed.lean ====
section
/-! DEFINITION. The checks on the shape of a command. Every operand a constructor of `Instr`
carries is typed so that no ill-formed one can be written (a channel is one of eight). The shape
that can fail is that of the frame a request arrives in (R179). -/

namespace Sys2Proof

/-- R179: the body length is 0..1088. -/
def Frame.bodyFits (f : Frame) : Bool := f.body.length ≤ 1088

/-- R179: the channel field is 0..7, or FFh. -/
def Frame.channelNamed (f : Frame) : Bool := f.channel.toNat < 8 || f.channel == 0xFF#8

/-- A frame of the layout of R179. -/
def Frame.wellFormed (f : Frame) : Bool := f.bodyFits && f.channelNamed

/-- The channel a command names, where it names one. -/
def Instr.channel? : Instr → Option Channel
  | .lineInputChange c _ | .filteredEdge c | .gatherQuietExpiry c | .falseStart c
  | .characterEvent c | .breakEvent c | .gapExpiry c | .holdoverExpiry c | .dormantExpiry c
  | .leaseExpiry c => some c
  | .hello | .time | .setRates | .getRates | .configure | .getConfig | .setGiven | .getGiven
  | .acquire | .status | .stats | .pool | .take | .fetch | .release | .close | .purge | .credit
  | .resetChannel | .restart | .unknownKind | .frameReceived | .lengthDiscard | .receiveTimeout
  | .responseSend | .noticeSend | .softRestart | .hardwareReset _ | .timeWrap | .trialStart
  | .rateEstimate | .candidateEvaluated | .trialComplete | .receivedByte _ _ _ | .frameSentWhole
  | .resetDeasserted _ _ => none

/-- A well-formed command: the channel it names, if any, is 0..7. -/
def Instr.wellFormed (i : Instr) : Bool := i.channel?.all fun c => decide (c.val < 8)

end Sys2Proof
end

