-- ==== Sys2Proof/Tests/Slice0.lean ====
section
/-! SUPPORT. Tests of single steps, their expected results from the manual's own text and examples,
and for each statement that has hypotheses a state and operands that meet them. -/

namespace Sys2Proof.Tests

-- One theorem after another: each holds a kernel evaluation, and side by side they need too many threads.
set_option Elab.async false

open Sys2Proof.Machine

/-! ### The states the tests start from -/

/-- What a command comes to in `s`, tested by `p`. -/
def after (i : Instr) (s : State) (p : State → Bool) : Bool :=
  match exec i s with
  | .next t => p t
  | .fault _ | .refused _ => false

/-- A request frame of the host, tag 31h. -/
def req (kind channel : Byte) (body : List Byte) : Frame :=
  { kind := kind, tag := 0x31#8, channel := channel, body := body
    check := crc16 (coveredBytes kind 0x31#8 channel body) }

/-- `s` with `f` the one frame of its inbox. -/
def ask (s : State) (f : Frame) : State := s.modLink fun l => { l with inbox := [f] }

/-- The body of the newest response. -/
def answer (s : State) : List Byte := (s.link.responses.getLast?.map Response.body).getD []

/-- The reset configuration in mode LISTEN. -/
def listening : ChannelConfig := { resetConfig with mode := .listen }

/-- A confirmed working profile, 9600 8N1, epoch 3. -/
def confirmed : WorkingProfile := { resetWorking with confirmed := true, epoch := 3 }

/-- A closed record. -/
def record (seq : BitVec 32) (bytes : List Byte) : Record :=
  { channel := 0, seq := seq, startTime := 100, endTime := 200, bytes := bytes, lost := 0
    cause := .gap, truncated := false, suspect := false, parityErrors := 0, framingErrors := 0
    firstError := none, preamble := none, epoch := 3, redelivery := 0 }

/-- An open record with these bytes. -/
def opened (bytes : List Byte) (granted : Bool) (lost : Nat) : OpenRecord :=
  { hasDescriptor := granted, startTime := 900, bytes := bytes, lost := lost
    truncated := decide (lost ≠ 0), suspect := false, parityErrors := 0, framingErrors := 0
    firstError := none, preamble := none, epoch := 3 }

/-- A channel that does not decode, in lock state `l`. -/
def idleIn (l : LockState) : Chan :=
  { resetChan .high with config := listening, ctl := { resetController with lock := l } }

/-- A decoding channel. -/
def decodingIn (l : LockState) (f : FramerState) (d : Decode) : Chan :=
  { idleIn l with
    working := confirmed
    sampler := { resetSampler .high with decode := d }
    framer := { state := f, preamble := 0, gapTimer := none } }

/-- A ring of `n` entries, 5000 ticks apart, the first edge to space. -/
def ringOf (n : Nat) : List CaptureEntry :=
  (List.range n).map fun i => { level := if i % 2 = 0 then .low else .high, interval := 5000 }

/-- The lease of channel 0: one record of three bytes under id 7. -/
def lease7 : Lease := { id := 7, records := [record 0 [1, 2, 3], record 1 []], expiry := 1000000 }

/-- Channel 0: LOCKED, a record open, two queued, a lease out. -/
def locked0 : Chan :=
  { decodingIn .locked (.inRecord (opened [0x41] true 0)) (.hunt 0) with
    store :=
      { resetChannelStore with
        queue := [record 2 [0x50, 0x51], record 3 [0x52]]
        held := 4
        nextSeq := 4
        lease := some lease7
        lastExpired := some 6 } }

/-- Channel 4: DEGRADED between records, its holdover and dormant timers running. -/
def degraded4 : Chan :=
  let k := decodingIn .degraded .between (.hunt 0)
  { k with ctl := { k.ctl with holdoverTimer := some 2000000, dormantTimer := some 3000000 } }

/-- Channel 6: GATHER with 31 edges and its gather-quiet timer running. -/
def gather6 : Chan :=
  let k := idleIn .gather
  { k with
    sampler := { k.sampler with ring := ringOf 31, lastCapture := some 48000 }
    ctl := { k.ctl with gatherTimer := some 4800000 } }

/-- The trial of channel 2. -/
def trial2 : Trial := newTrial 2 ((idleIn .trial).snapshot resetRates)

/-- A device at work 1 ms after its reset: its channels stand in LOCKED, QUEUED, TRIAL, QUIET,
DEGRADED, ALIGN, GATHER and FAILED. -/
def busy : State :=
  { State.reset with
    time := { counter := 1000, wraps := 0, ticks := 48000 }
    chans :=
      #v[locked0, idleIn .queued, idleIn .trial, idleIn .quiet, degraded4,
         decodingIn .align .aligning (.hunt 0), gather6, idleIn .failed]
    trial := { service := some trial2, queue := [1] }
    pools := { resetPools with freeSegments := 508, freeDescriptors := 251 }
    leaseCounter := 65535 }

/-- `busy` with channel `c` changed. -/
def busyWith (c : Channel) (f : Chan → Chan) : State := busy.modChan c f

/-! ### The laws hold in the busy state, which is no reset state -/

theorem busy_channels (c : Channel) : (busy.chan c).LockLaw := by
  constructor <;> (revert c; decide +kernel)

theorem busy_lockLaw : busy.LockLaw :=
  ⟨busy_channels, by decide +kernel, by decide +kernel, by decide +kernel⟩

theorem busy_poolLaw : busy.PoolLaw := by
  refine ⟨by decide +kernel, fun c r h hd => ?_, by decide +kernel, by decide +kernel⟩
  have hk : ∀ d : Channel, ((busy.chan d).openRecord?.all fun r => r.hasDescriptor) = true := by
    decide +kernel
  have := hk c
  rw [h] at this
  simp [hd] at this

theorem busy_fillLaw : busy.FillLaw := fun c => by
  constructor <;> (revert c; decide +kernel)

theorem busy_timeLaw : busy.TimeLaw := ⟨by decide +kernel, by decide +kernel⟩

theorem busy_noticeLaw : busy.NoticeLaw :=
  ⟨by decide +kernel, by decide +kernel, by decide +kernel, by decide +kernel⟩

theorem busy_linkLaw : busy.LinkLaw :=
  ⟨by decide +kernel, by decide +kernel, by decide +kernel, by decide +kernel⟩

theorem busy_leaseLaw : busy.LeaseLaw := by
  refine ⟨fun c l h => ?_, by decide +kernel⟩
  have hk : ∀ d : Channel, ((busy.chan d).store.lease.all fun l =>
      decide (1 ≤ l.id ∧ l.id ≤ 65535) && decide (1 ≤ l.records.length ∧ l.records.length ≤ 16))
        = true := by
    decide +kernel
  have := hk c
  rw [h] at this
  simp at this
  exact ⟨this.1, this.2⟩

theorem trial2_profileLaw : trial2.ProfileLaw := by
  refine ⟨by decide +kernel, by decide +kernel, fun _ h => ?_, fun _ h => ?_, fun _ _ h => ?_⟩ <;>
    exact nomatch h

theorem busy_profileLaw : busy.ProfileLaw :=
  ⟨by decide +kernel, fun c => by constructor <;> (revert c; decide +kernel),
    fun _ h => Option.some.inj h ▸ trial2_profileLaw⟩

theorem busy_periodLaw : busy.PeriodLaw := by
  refine ⟨fun c => ⟨?_, ?_, fun t per h => ?_⟩, fun _ h => Option.some.inj h ▸ ⟨?_, ?_, ?_⟩⟩
  · revert c; decide +kernel
  · simp only [periodInRange]; revert c; decide +kernel
  · have hk : ∀ d : Channel, (busy.chan d).sampler.decode = .stopped ∨
        (busy.chan d).sampler.decode = .hunt 0 := by
      decide +kernel
    rcases hk c with e | e <;> rw [e] at h <;> simp at h
  all_goals intros; simp [trial2, newTrial, Chan.snapshot, idleIn, resetChan, resetWorking,
    WorkingProfile.verifyFirst] at *

/-- Asking a question leaves the lock states alone. -/
theorem ask_lockLaw {s : State} (h : s.LockLaw) (f : Frame) : (ask s f).LockLaw :=
  ⟨h.channels, h.once, h.queued, h.served⟩

/-- A channel request put to a device that runs, with an empty response queue. -/
theorem ask_asked {s : State} (hr : s.resetAsserted = false) (hd : s.link.restart = .idle)
    (hl : s.link.responses = []) (c : Channel) (kind : Byte) (body : List Byte) :
    (ask s (req kind (BitVec.ofNat 8 c.val) body)).Asked c kind body
      (req kind (BitVec.ofNat 8 c.val) body) [] :=
  ⟨⟨hr, hd, by simp [ask, State.modLink, hl], rfl⟩, rfl, rfl, rfl⟩

/-- A device request put to such a device. -/
theorem ask_askedDevice {s : State} (hr : s.resetAsserted = false) (hd : s.link.restart = .idle)
    (hl : s.link.responses = []) (kind : Byte) (body : List Byte) :
    (ask s (req kind 0xFF#8 body)).AskedDevice kind body (req kind 0xFF#8 body) [] :=
  ⟨⟨hr, hd, by simp [ask, State.modLink, hl], rfl⟩, rfl, rfl, rfl⟩

/-- A request is new to an empty reply cache. -/
theorem ask_fresh {s : State} (h : s.link.cache = []) (f : Frame) : (ask s f).Fresh f := by
  intro e he
  simp [ask, State.modLink, h] at he

/-! ### WellFormed: each check refuses an ill-formed term -/

theorem test_frame_body_too_long :
    (req 0x07#8 0#8 (List.replicate 1089 0#8)).wellFormed = false := by decide +kernel

theorem test_frame_longest_body :
    (req 0x07#8 0#8 (List.replicate 1088 0#8)).bodyFits = true := by decide +kernel

theorem test_frame_channel_8 : (req 0x07#8 8#8 []).wellFormed = false := by decide +kernel

theorem test_frame_channel_7_and_FF :
    (req 0x07#8 7#8 []).wellFormed = true ∧ (req 0x07#8 0xFF#8 []).wellFormed = true := by
  decide +kernel

/-- The one check on a command: its channel is 0..7, which the type of the operand enforces, so that
no ill-formed command can be written. -/
theorem test_command_channels : ∀ c : Channel, (Instr.gapExpiry c).wellFormed = true := by decide

/-! ### Codes and layouts of section 10.7 -/

/-- No row of the table has bits, so no word spells a command. -/
theorem test_no_word_is_a_command : decodeTableWord 8 0 = none := rfl

theorem test_kind_codes :
    requestOf 0x01#8 = .hello ∧ requestOf 0x0D#8 = .take ∧ requestOf 0x14#8 = .restart ∧
      requestOf 0x15#8 = .unknownKind ∧ requestOf 0x00#8 = .unknownKind := by decide +kernel

/-- The check of the parameters R173 gives over the digits 1 to 9 is 29B1h. -/
theorem test_crc_digits :
    crc16 [0x31#8, 0x32#8, 0x33#8, 0x34#8, 0x35#8, 0x36#8, 0x37#8, 0x38#8, 0x39#8] = 0x29B1#16 := by
  decide +kernel

/-- The 29 bytes of the reset configuration, field by field from the tables of R157 and R179. -/
theorem test_reset_configuration_bytes :
    resetConfig.encode =
      [0x00#8, 0x04#8, 0x80#8, 0x00#8, 0x64#8, 0x00#8, 0x10#8, 0x00#8, 0x05#8, 0x03#8, 0x03#8,
       0x00#8, 0x01#8, 0x04#8, 0x00#8, 0xF4#8, 0x01#8, 0x00#8, 0x00#8, 0x40#8, 0x00#8, 0x30#8,
       0x00#8, 0x10#8, 0x00#8, 0x00#8, 0x00#8, 0xD0#8, 0x07#8] := by decide +kernel

/-- The 25 bytes of the reset given profile, from R7 and R180. -/
theorem test_reset_profile_bytes :
    resetGiven.encode =
      [0x04#8, 0x08#8, 0x00#8, 0x01#8, 0x00#8, 0xFF#8, 0x0F#8, 0x0C#8, 0x1F#8, 0x03#8, 0x01#8,
       0x00#8, 0x04#8, 0x00#8, 0x00#8, 0x00#8, 0x00#8, 0x00#8, 0x00#8, 0x00#8, 0x00#8, 0x00#8,
       0x08#8, 0x00#8, 0x08#8] := by decide +kernel

/-! ### One step of the queue -/

theorem witness_StepRunsFrontCommand :
    ({ busy with pending := [.time, .hello] } : State).pending = .time :: [.hello] := rfl

/-- With nothing waiting one tick passes (notes/assumptions/1.md). -/
theorem test_idle_step_is_one_tick :
    (match step busy with
      | .next t => t == { busy with time := { busy.time with ticks := 48001 } }
      | .fault _ | .refused _ => false) = true := by
  decide +kernel

theorem witness_NothingHappensWhileResetIsAsserted :
    ({ busy with resetAsserted := true } : State).resetAsserted = true ∧
      (∀ cause, Instr.hello ≠ .hardwareReset cause) ∧
      (∀ a b, Instr.hello ≠ .resetDeasserted a b) ∧
      (∀ c e, Instr.hello ≠ .lineInputChange c e) := by
  refine ⟨rfl, ?_, ?_, ?_⟩ <;> intros <;> exact fun h => nomatch h

/-- The busy device with a command waiting. -/
def waiting : State := { busy with pending := [.holdoverExpiry 4] }

theorem waiting_resetLaw : waiting.ResetLaw := fun h => nomatch h

/-- The busy device under RESET, its deassertion waiting. -/
def asserted : State :=
  { busy.hardwareReset .pin with pending := [.resetDeasserted false true] }

theorem asserted_resetLaw : asserted.ResetLaw :=
  fun _ => ⟨rfl, rfl, ⟨_, rfl⟩, rfl, rfl, rfl, rfl, rfl⟩

theorem asserted_lockLaw : asserted.LockLaw :=
  ⟨fun c => by constructor <;> (revert c; decide +kernel), by decide +kernel, by decide +kernel,
    by decide +kernel⟩

theorem asserted_poolLaw : asserted.PoolLaw := by
  refine ⟨by decide +kernel, fun c r h _ => ?_, by decide +kernel, by decide +kernel⟩
  have hk : ∀ d : Channel, (asserted.chan d).openRecord? = none := by decide +kernel
  rw [hk c] at h
  exact nomatch h

theorem witness_StepKeepsTimeLaw : waiting.TimeLaw ∧ ∃ t, step waiting = .next t :=
  ⟨⟨busy_timeLaw.1, busy_timeLaw.2⟩, _, rfl⟩

/-- RESET asserted with its end waiting, and a running device with a reset waiting. -/
theorem witness_StepKeepsResetLaw :
    (asserted.resetAsserted = true ∧ asserted.ResetLaw ∧ ∃ t, step asserted = .next t) ∧
      ({ busy with pending := [.hardwareReset .pin] } : State).ResetLaw ∧
      ∃ t, step { busy with pending := [.hardwareReset .pin] } = .next t :=
  ⟨⟨rfl, asserted_resetLaw, _, rfl⟩, (fun h => nomatch h), _, rfl⟩

theorem witness_StepKeepsLockLaw :
    (waiting.ResetLaw ∧ waiting.LockLaw ∧ ∃ t, step waiting = .next t) ∧
      asserted.ResetLaw ∧ asserted.LockLaw ∧ ∃ t, step asserted = .next t :=
  ⟨⟨waiting_resetLaw, ⟨busy_lockLaw.1, busy_lockLaw.2, busy_lockLaw.3, busy_lockLaw.4⟩, _, rfl⟩,
    asserted_resetLaw, asserted_lockLaw, _, rfl⟩

theorem witness_StepKeepsPoolLaw :
    (waiting.ResetLaw ∧ waiting.LockLaw ∧ waiting.PoolLaw ∧ ∃ t, step waiting = .next t) ∧
      asserted.ResetLaw ∧ asserted.LockLaw ∧ asserted.PoolLaw ∧ ∃ t, step asserted = .next t :=
  ⟨⟨waiting_resetLaw, witness_StepKeepsLockLaw.1.2.1,
      ⟨busy_poolLaw.1, busy_poolLaw.2, busy_poolLaw.3, busy_poolLaw.4⟩, _, rfl⟩,
    asserted_resetLaw, asserted_lockLaw, asserted_poolLaw, _, rfl⟩

theorem witness_StepKeepsFillLaw : waiting.FillLaw ∧ ∃ t, step waiting = .next t :=
  ⟨busy_fillLaw, _, rfl⟩

theorem witness_StepKeepsNoticeLaw : waiting.NoticeLaw ∧ ∃ t, step waiting = .next t :=
  ⟨⟨busy_noticeLaw.1, busy_noticeLaw.2, busy_noticeLaw.3, busy_noticeLaw.4⟩, _, rfl⟩

theorem witness_StepKeepsLinkLaw : waiting.LinkLaw ∧ ∃ t, step waiting = .next t :=
  ⟨⟨busy_linkLaw.1, busy_linkLaw.2, busy_linkLaw.3, busy_linkLaw.4⟩, _, rfl⟩

theorem witness_StepKeepsLeaseLaw : waiting.LeaseLaw ∧ ∃ t, step waiting = .next t :=
  ⟨⟨busy_leaseLaw.1, busy_leaseLaw.2⟩, _, rfl⟩

theorem witness_StepKeepsProfileLaw :
    waiting.ResetLaw ∧ waiting.LockLaw ∧ waiting.ProfileLaw ∧ waiting.PeriodLaw ∧
      ∃ t, step waiting = .next t :=
  ⟨waiting_resetLaw, witness_StepKeepsLockLaw.1.2.1,
    ⟨busy_profileLaw.1, busy_profileLaw.2, busy_profileLaw.3⟩,
    ⟨busy_periodLaw.1, busy_periodLaw.2⟩, _, rfl⟩

/-- R77: 0.875 and 1.125 of the 5000 ticks of 9600 bit/s are 1,120,000 and 1,440,000 parts of 1/256
tick. -/
theorem test_period_range :
    periodInRange 9600 1120000 ∧ ¬periodInRange 9600 1119999 ∧ periodInRange 9600 1440000 ∧
      ¬periodInRange 9600 1440001 ∧ ¬periodInRange 9600 0 ∧ ¬periodInRange 0 1280000 := by
  simp only [periodInRange]
  decide +kernel

/-! ### Round trips -/

/-- The least and the greatest legal records of R157. -/
theorem witness_ConfigurationRecordRoundTrip :
    ({ resetConfig with
        glitchLimit := 0, gatherTarget := 32, gatherQuietMs := 1, minCharacters := 8
        candidateBudget := 1, retryLimit := 0, tolerance := 1, windowLength := 16
        errorThreshold := 0, holdoverMs := 10, dormantS := 0, segmentCap := 2, highMark := 2
        lowMark := 1, leaseTimeoutMs := 10 } : ChannelConfig).valid = true ∧
      ({ resetConfig with
        mode := .listen, glitchLimit := 255, gatherTarget := 256, gatherQuietMs := 1000
        minCharacters := 64, candidateBudget := 1280, retryLimit := 15, tolerance := 8
        windowLength := 4096, errorThreshold := 4096, holdoverMs := 10000, dormantS := 3600
        segmentCap := 512, highMark := 512, lowMark := 511, holdEnable := true
        holdPolarity := .activeHigh, leaseTimeoutMs := 60000 } : ChannelConfig).valid = true := by
  decide +kernel

/-- A legal profile in each framing mode, at the ends of their ranges. -/
theorem witness_GivenProfileRoundTrip :
    resetGiven.valid = true ∧ resetRates[resetGiven.line.rate.val] ≠ 0 ∧
      ({ resetGiven with framing :=
        { resetFraming with
          mode := .delim, gapLimit := 64, delimiters := [1, 2, 3, 4], delimiterKept := true
          startChar := some 5 } } : GivenProfile).valid = true ∧
      ({ resetGiven with framing :=
        { resetFraming with mode := .length, gapLimit := 0, recordLength := 1, maxRecordLength := 1 }
        } : GivenProfile).valid = true := by
  decide +kernel

theorem witness_SentFrameEntersInbox :
    State.reset.resetAsserted = false ∧ State.reset.link.selection ≠ .spi ∧
      State.reset.link.restart = .idle ∧ State.reset.link.receiver.state = .hunt ∧
      State.reset.link.inbox.length < 4 ∧ ([] : List Byte).length ≤ 1088 ∧
      (List.replicate 1088 0#8).length ≤ 1088 := by
  decide +kernel

theorem witness_CharacterIsReadAtMidBits :
    2 ≤ 2 ∧ [true, false, true, true, false].length = (5 : Nat) ∧ (5 : Nat) ≤ 8 ∧
      [true, false].length = (2 : Nat) ∧ (1 : Nat) ≤ 1 ∧
      (∀ e ∈ [({ tick := 97501, level := .high } : Edge)], lastSample 50000 1280000 10 < e.tick) := by
  decide +kernel

/-! ### Requests in general -/

theorem witness_MisshapenRequestsAreRefused :
    (ask busy (req 0x05#8 0#8 (List.replicate 28 0#8))).CanTake
        (req 0x05#8 0#8 (List.replicate 28 0#8)) [] ∧
      (List.replicate 28 0#8).length ≠ 29 ∧
      (⟨0x05#8, .configure, 29, false⟩ : RequestRow).suits (req 0x05#8 8#8 []) = false ∧
      (⟨0x01#8, .hello, 0, true⟩ : RequestRow).suits (req 0x01#8 0#8 []) = false ∧
      (∀ row ∈ requestTable, (req 0x15#8 0#8 []).kind ≠ row.kind) ∧
      (∀ row ∈ requestTable, (req 0x00#8 0#8 []).kind ≠ row.kind) := by
  refine ⟨⟨rfl, rfl, by decide, rfl⟩, by decide, by decide +kernel, by decide +kernel,
    by decide +kernel, by decide +kernel⟩

/-- R174: PURGE with one body byte. -/
theorem test_purge_of_wrong_length :
    after .purge (ask busy (req 0x11#8 0#8 [0#8])) (fun t => answer t == [0x06#8]) = true := by
  decide +kernel

/-- R174: TIME must have channel field FFh. -/
theorem test_time_on_a_channel :
    after .time (ask busy (req 0x02#8 0#8 [])) (fun t => answer t == [0x03#8]) = true := by
  decide +kernel

/-- R175: the response to an unlisted kind has kind FFh. -/
theorem test_unknown_kind :
    after .unknownKind (ask busy (req 0x40#8 0#8 [])) (fun t =>
      t.link.responses == [{ kind := 0xFF#8, tag := 0x31#8, channel := 0#8, body := [0x07#8] }])
      = true := by
  decide +kernel

/-- `busy` with four responses waiting. -/
def crowded : State :=
  busy.modLink fun l =>
    { l with responses := List.replicate 4 { kind := 0x81#8, tag := 0, channel := 0, body := [] } }

theorem witness_RequestsWaitInTheInbox :
    4 ≤ crowded.link.responses.length ∧
      (busy.modLink fun l => { l with restart := .awaiting }).link.restart ≠ .idle := by
  decide +kernel

/-- `busy` with an entry for `f` in the reply cache. -/
def cachedFor (f : Frame) (body : List Byte) : State :=
  (ask busy f).modLink fun l => { l with cache := [cacheEntryOf f body] }

theorem witness_RetransmissionIsNotExecutedAgain :
    let f := req 0x13#8 0#8 []
    (cachedFor f [0x00#8]).CanTake f [] ∧ f.kind = 0x13#8 ∧ f.body.length = 0 ∧
      (⟨0x13#8, .resetChannel, 0, false⟩ : RequestRow).suits f = true ∧
      (⟨0x13#8, .resetChannel, 0, false⟩ : RequestRow).mutating f = true ∧
      ((cachedFor f [0x00#8]).link.cache.map CacheEntry.tag).Nodup ∧
      cacheEntryOf f [0x00#8] ∈ (cachedFor f [0x00#8]).link.cache := by
  refine ⟨⟨rfl, rfl, by decide, rfl⟩, rfl, rfl, by decide +kernel, by decide +kernel,
    by decide +kernel, by decide +kernel⟩

/-- Eight cache entries with tags 10h to 17h, the oldest first (the example of section 10.8). -/
def fullCache : List CacheEntry :=
  (List.range 8).map fun i =>
    { tag := BitVec.ofNat 8 (0x10 + i), kind := 0x0D#8, channel := 2, check := 0, body := [] }

theorem witness_CacheEntersNewestResponse :
    let f := req 0x0D#8 2#8 []
    (∀ e ∈ fullCache, e.tag ≠ f.tag) ∧ fullCache.length = 8 ∧
      (∀ e ∈ fullCache.tail, e.tag ≠ f.tag) ∧ fullCache.tail.length < 8 ∧
      ((fullCache.tail ++ cacheEntryOf f [] :: []).map CacheEntry.tag).Nodup ∧
      (cacheEntryOf f []).tag = f.tag := by
  decide +kernel

/-- Section 10.8: tag 31h evicts tag 10h of a full cache. -/
theorem test_cache_evicts_the_oldest :
    (cacheAfter fullCache (req 0x0D#8 2#8 []) [0x00#8]).map CacheEntry.tag =
      [0x11#8, 0x12#8, 0x13#8, 0x14#8, 0x15#8, 0x16#8, 0x17#8, 0x31#8] := by
  decide +kernel

/-! ### Reading requests -/

theorem witness_DeviceReadingsAreAnswered :
    (ask busy (req 0x01#8 0xFF#8 [])).AskedDevice 0x01#8 [] (req 0x01#8 0xFF#8 []) [] ∧
      (ask busy (req 0x02#8 0xFF#8 [])).AskedDevice 0x02#8 [] (req 0x02#8 0xFF#8 []) [] ∧
      (ask busy (req 0x0C#8 0xFF#8 [])).AskedDevice 0x0C#8 [] (req 0x0C#8 0xFF#8 []) [] :=
  ⟨ask_askedDevice rfl rfl rfl _ _, ask_askedDevice rfl rfl rfl _ _,
    ask_askedDevice rfl rfl rfl _ _⟩

theorem test_hello :
    after .hello (ask State.reset (req 0x01#8 0xFF#8 [])) (fun t => (answer t).length == 14) = true
    := by
  decide +kernel

/-- Device time 1000 µs, no wrap. -/
theorem test_time :
    after .time (ask busy (req 0x02#8 0xFF#8 [])) (fun t =>
      answer t == [0x00#8, 0xE8#8, 0x03#8, 0#8, 0#8, 0#8, 0#8]) = true := by
  decide +kernel

/-- After a reset all 512 segments and 256 descriptors are free. -/
theorem test_pool :
    after .pool (ask State.reset (req 0x0C#8 0xFF#8 [])) (fun t =>
      (answer t).take 5 == [0x00#8, 0x00#8, 0x02#8, 0x00#8, 0x01#8]) = true := by
  decide +kernel

theorem witness_GetRatesAnswersTheTable :
    (ask busy (req 0x04#8 0xFF#8 [])).AskedDevice 0x04#8 [] (req 0x04#8 0xFF#8 []) [] ∧
      (ask busy (req 0x04#8 0#8 [])).CanTake (req 0x04#8 0#8 []) [] ∧
      (req 0x04#8 0#8 []).channel ≠ 0xFF#8 :=
  ⟨ask_askedDevice rfl rfl rfl _ _, ⟨rfl, rfl, by decide, rfl⟩, by decide⟩

/-- Entries 0 and 11 of the reset table: 300 and 921,600 bit/s. -/
theorem test_get_rates :
    after .getRates (ask State.reset (req 0x04#8 0xFF#8 [])) (fun t =>
      (answer t).length == 65 && field (answer t) 1 4 == 300 && field (answer t) 45 4 == 921600)
      = true := by
  decide +kernel

theorem witness_WrittenRecordsAreReadBack :
    (ask busy (req 0x06#8 7#8 [])).Asked 7 0x06#8 [] (req 0x06#8 7#8 []) [] ∧
      (ask busy (req 0x08#8 0#8 [])).Asked 0 0x08#8 [] (req 0x08#8 0#8 []) [] :=
  ⟨ask_asked rfl rfl rfl 7 _ _, ask_asked rfl rfl rfl 0 _ _⟩

theorem test_get_config :
    after .getConfig (ask State.reset (req 0x06#8 0#8 [])) (fun t =>
      (answer t).length == 30 && field (answer t) 28 2 == 2000) = true := by
  decide +kernel

theorem test_get_given :
    after .getGiven (ask State.reset (req 0x08#8 0#8 [])) (fun t =>
      (answer t).length == 26 && field (answer t) 24 2 == 2048) = true := by
  decide +kernel

/-- `busy` with a trial report on channel 7. -/
def reported7 (v : Verdict) : State :=
  busyWith 7 fun k => { k with ctl := { k.ctl with report := some (trial2.report v 5) } }

/-- The confirmed profile as a candidate. -/
def verify : Candidate := { line := resetLine, nominal := 9600 }

/-- A channel with a lease and one with a trial report; decoding and not. -/
theorem witness_StatusDescribesTheChannel :
    (ask busy (req 0x0A#8 0#8 [])).Asked 0 0x0A#8 [] (req 0x0A#8 0#8 []) [] ∧
      (busy.chan 0).ctl.lock.decoding = true ∧ (busy.chan 3).ctl.lock.decoding = false ∧
      (busy.chan 0).store.lease = some lease7 ∧ (busy.chan 3).store.lease = none ∧
      (busy.chan 0).ctl.report = none ∧
      (∀ v, ((reported7 v).chan 7).ctl.report = some (trial2.report v 5)) ∧
      (trial2.report { outcome := .noFit, chosen := none } 5).chosen = none ∧
      (trial2.report { outcome := .fit, chosen := some verify } 5).chosen = some verify :=
  ⟨ask_asked rfl rfl rfl 0 _ _, by decide +kernel, by decide +kernel, by decide +kernel,
    by decide +kernel, by decide +kernel, fun _ => rfl, rfl, rfl⟩

/-- Section 10.7: the chosen candidate's 8 data bits, no parity, 1 stop bit and normal polarity, after
the result code and the 48 bytes before them. -/
theorem test_status_of_the_chosen_candidate :
    after .status (ask (reported7 { outcome := .fit, chosen := some verify }) (req 0x0A#8 7#8 []))
      (fun t => fieldBytes (answer t) 49 4 == [0x08#8, 0x00#8, 0x01#8, 0x00#8]) = true := by
  decide +kernel

/-- Lock state LOCKED is code 6; the lease has id 7, two records, and 952,000 ticks to run. -/
theorem test_status :
    after .status (ask busy (req 0x0A#8 0#8 [])) (fun t =>
      (answer t).length == 75 && field (answer t) 2 1 == 6 && field (answer t) 70 2 == 7 &&
        field (answer t) 72 1 == 2 && field (answer t) 73 2 == 19) = true := by
  decide +kernel

theorem witness_StatsReadsAndClears :
    let f := req 0x0B#8 0#8 [0x01#8]
    (ask busy f).Asked 0 0x0B#8 [0x01#8] f [] ∧ (ask busy f).Fresh f ∧
      (cachedFor f [0x00#8]).Asked 0 0x0B#8 [0x01#8] f [] ∧
      cacheEntryOf f [0x00#8] ∈ (cachedFor f [0x00#8]).link.cache ∧
      ((cachedFor f [0x00#8]).link.cache.map CacheEntry.tag).Nodup ∧
      (ask busy (req 0x0B#8 0#8 [0x00#8])).Asked 0 0x0B#8 [0x00#8] (req 0x0B#8 0#8 [0x00#8]) [] ∧
      (ask busy (req 0x0B#8 0#8 [0x02#8])).Asked 0 0x0B#8 [0x02#8] (req 0x0B#8 0#8 [0x02#8]) [] ∧
      ({ resetStatistics with preambleBytes := 9 } : Statistics).inOrder[14]? = some 9 :=
  ⟨ask_asked rfl rfl rfl 0 _ _, ask_fresh rfl _, ⟨⟨rfl, rfl, by decide, rfl⟩, rfl, rfl, rfl⟩,
    by decide +kernel, by decide +kernel, ask_asked rfl rfl rfl 0 _ _,
    ask_asked rfl rfl rfl 0 _ _, rfl⟩

/-- R163: STATS with clear 1 reads the counts and sets them to 0. -/
theorem test_stats_clear :
    after .stats (ask (busyWith 0 fun k => { k with stats := { k.stats with breaks := 5 } })
      (req 0x0B#8 0#8 [0x01#8])) (fun t =>
        field (answer t) 25 4 == 5 && (t.chan 0).stats == resetStatistics) = true := by
  decide +kernel

/-! ### Rates, configuration, profiles -/

theorem witness_SetRatesReplacesTheTableWhole :
    let good : Vector Nat 16 := #v[0, 300, 3000000, 0, 0, 0, 0, 0, 0, 0, 0, 0, 0, 0, 0, 0]
    let bad : Vector Nat 16 := #v[299, 3000001, 0, 0, 0, 0, 0, 0, 0, 0, 0, 0, 0, 0, 0, 0]
    let f (r : Vector Nat 16) := req 0x03#8 0xFF#8 (r.toList.flatMap fun r => le 4 r)
    (∀ r ∈ good.toList, r < 4294967296) ∧ (ask busy (f good)).Fresh (f good) ∧
      (ask busy (f good)).AskedDevice 0x03#8 (good.toList.flatMap fun r => le 4 r) (f good) [] ∧
      (∀ r ∈ good.toList, r = 0 ∨ (300 ≤ r ∧ r ≤ 3000000)) ∧
      (∃ r ∈ bad.toList, r ≠ 0 ∧ (r < 300 ∨ 3000000 < r)) :=
  ⟨by decide, ask_fresh rfl _, ask_askedDevice rfl rfl rfl _ _, by decide, by decide⟩

/-- R4: one entry of 299 refuses the whole request. -/
theorem test_set_rates_refused :
    after .setRates (ask busy (req 0x03#8 0xFF#8 (le 4 299 ++ List.replicate 60 0#8))) (fun t =>
      answer t == [0x04#8] && t.rates == resetRates) = true := by
  decide +kernel

/-- R4: an accepted table, entry 0 at 250,000 bit/s. -/
theorem test_set_rates :
    after .setRates (ask busy (req 0x03#8 0xFF#8 (le 4 250000 ++ List.replicate 60 0#8))) (fun t =>
      answer t == [0x00#8] && t.rates[0] == 250000 && t.rates[1] == 0) = true := by
  decide +kernel

theorem witness_IllegalConfigurationIsRefused :
    let bad : ChannelConfig := { resetConfig with lowMark := 48 }
    let f := req 0x05#8 0#8 bad.encode
    (ask busy f).Asked 0 0x05#8 bad.encode f [] ∧ bad.encode.length = 29 ∧ (ask busy f).Fresh f ∧
      bad.Fits ∧ bad.valid = false ∧ 1 < field (List.replicate 29 2#8) 0 1 ∧
      1 < field (List.replicate 29 2#8) 25 1 ∧ 1 < field (List.replicate 29 2#8) 26 1 :=
  ⟨ask_asked rfl rfl rfl 0 _ _, by decide +kernel, ask_fresh rfl _,
    by constructor <;> decide +kernel, by decide +kernel, by decide +kernel, by decide +kernel,
    by decide +kernel⟩

/-- R157: low mark 48 is not below high mark 48. -/
theorem test_configure_refused :
    after .configure (ask busy (req 0x05#8 0#8 { resetConfig with lowMark := 48 }.encode)) (fun t =>
      answer t == [0x04#8] && (t.chan 0).config == listening) = true := by
  decide +kernel

/-- With no change pending, what is said of one holds. -/
theorem noChange {o : Option Nat} {P : Nat → Prop} (h : o = none) : ∀ d, o = some d → P d := by
  intro d hd
  rw [h] at hd
  cases hd

/-- `busy` with a change of line `c` pending since tick `d`. -/
def pendingSince (c : Channel) (d : Nat) : State :=
  busyWith c fun k => { k with sampler := { k.sampler with pendingChange := some d } }

/-- No change pending; one pending for the glitch limit of 4 exactly. -/
theorem witness_ConfigureWritesTheRecord :
    let k : ChannelConfig := { listening with highMark := 4, lowMark := 1 }
    let f := req 0x05#8 0#8 k.encode
    (ask busy f).Asked 0 0x05#8 k.encode f [] ∧ k.valid = true ∧ (ask busy f).Fresh f ∧
      (∀ d, ((ask busy f).chan 0).sampler.pendingChange = some d →
        (ask busy f).time.ticks < d + k.glitchLimit) ∧
      ((ask busy f).chan 0).FillLaw ∧ k.mode = ((ask busy f).chan 0).config.mode ∧
      (ask (pendingSince 0 47996) f).Asked 0 0x05#8 k.encode f [] ∧
      (ask (pendingSince 0 47996) f).Fresh f ∧
      ((ask (pendingSince 0 47996) f).chan 0).sampler.pendingChange = some 47996 ∧
      47996 + k.glitchLimit ≤ (ask (pendingSince 0 47996) f).time.ticks :=
  ⟨ask_asked rfl rfl rfl 0 _ _, by decide +kernel, ask_fresh rfl _,
    noChange (by decide +kernel), busy_fillLaw 0, by decide +kernel, ask_asked rfl rfl rfl 0 _ _,
    ask_fresh rfl _, by decide +kernel, by decide +kernel⟩

/-- R120, R122: held 4 at a high mark of 4 with HOLD enabled: HIGH, HOLD active, FILL posted. -/
theorem test_configure_crosses_the_high_mark :
    after .configure (ask busy (req 0x05#8 0#8
      { listening with highMark := 4, lowMark := 1, holdEnable := true }.encode)) (fun t =>
        (t.chan 0).store.fill == .high && (t.chan 0).store.hold && t.holdPin 0 == .low &&
          t.notices.pending.any fun n => n.slot == .chan 0 .fill) = true := by
  decide +kernel

/-- `busy` with channel 3 in OFF. -/
def off3 : State := busyWith 3 fun _ => resetChan .high

theorem off3_lockLaw : (off3.chan 3).LockLaw := by constructor <;> decide +kernel

/-- `off3` with a change of its line pending for 4 ticks. -/
def offChanging3 : State :=
  off3.modSampler 3 fun p => { p with pendingChange := some 47996 }

theorem witness_ListenEntersQuiet :
    let f := req 0x05#8 3#8 listening.encode
    (ask off3 f).Asked 3 0x05#8 listening.encode f [] ∧ listening.valid = true ∧
      (ask off3 f).Fresh f ∧ ((ask off3 f).chan 3).LockLaw ∧
      ((ask off3 f).chan 3).config.mode = .off ∧ listening.mode = .listen ∧
      (∀ d, ((ask off3 f).chan 3).sampler.pendingChange = some d →
        (ask off3 f).time.ticks < d + listening.glitchLimit) ∧
      (offChanging3.chan 3).LockLaw ∧ (offChanging3.chan 3).config.mode = .off ∧
      (offChanging3.chan 3).sampler.pendingChange = some 47996 ∧
      47996 + listening.glitchLimit ≤ offChanging3.time.ticks :=
  ⟨ask_asked rfl rfl rfl 3 _ _, by decide +kernel, ask_fresh rfl _, off3_lockLaw,
    by decide +kernel, rfl, noChange (by decide +kernel), by constructor <;> decide +kernel,
    by decide +kernel, by decide +kernel, by decide +kernel⟩

/-- Channels with an open record, a queue place, a trial and none of them. -/
theorem witness_ModeOffIsEntered (c : Channel) :
    let f := req 0x05#8 (BitVec.ofNat 8 c.val) resetConfig.encode
    (ask busy f).Asked c 0x05#8 resetConfig.encode f [] ∧ resetConfig.valid = true ∧
      (ask busy f).Fresh f ∧ (ask busy f).LockLaw ∧
      ((ask busy f).chan c).config.mode = .listen ∧ resetConfig.mode = .off ∧
      (∀ d, ((ask busy f).chan c).sampler.pendingChange = some d →
        (ask busy f).time.ticks < d + resetConfig.glitchLimit) ∧
      (busy.chan 0).ctl.lock ≠ .trial ∧
      (busy.chan 0).openRecord? = some (opened [0x41] true 0) ∧
      (busy.chan 3).openRecord? = none ∧ busy.trial.service = some trial2 ∧
      trial2.channel = 2 :=
  ⟨ask_asked rfl rfl rfl c _ _, by decide +kernel, ask_fresh rfl _, ask_lockLaw busy_lockLaw _,
    by revert c; decide +kernel, rfl, noChange (by revert c; decide +kernel), by decide +kernel,
    by decide +kernel, by decide +kernel, rfl, rfl⟩

/-- R21: the open record is queued with cause HALT as the channel enters OFF. -/
theorem test_mode_off_closes_with_halt :
    after .configure (ask busy (req 0x05#8 0#8 resetConfig.encode)) (fun t =>
      (t.chan 0).ctl.lock == .off && (t.chan 0).framer.state == .idle &&
        (t.chan 0).store.queue.map Record.cause == [.gap, .gap, .halt]) = true := by
  decide +kernel

/-- A given profile in LENGTH mode with the guard off. -/
def guardOff : GivenProfile :=
  { resetGiven with framing := { resetFraming with mode := .length, gapLimit := 0 } }

/-- A legal profile; lock states of every clause; an illegal block (rate index 16). -/
theorem witness_SetGivenReplacesTheProfile (c : Channel) :
    let f := req 0x07#8 (BitVec.ofNat 8 c.val) resetGiven.encode
    let bad : List Byte := 16#8 :: List.replicate 24 0#8
    let g := req 0x07#8 (BitVec.ofNat 8 c.val) bad
    (ask busy f).Asked c 0x07#8 resetGiven.encode f [] ∧ resetGiven.valid = true ∧
      busy.rates[resetGiven.line.rate.val] ≠ 0 ∧ (ask busy f).Fresh f ∧
      (ask busy g).Asked c 0x07#8 bad g [] ∧ bad.length = 25 ∧ (ask busy g).Fresh g ∧
      givenBlockLegal bad busy.rates = false ∧
      (busy.chan 0).openRecord? ≠ none ∧ (busy.chan 4).openRecord? = none ∧
      (busy.chan 7).ctl.lock = .failed ∧ (busy.chan 3).ctl.lock = .quiet ∧
      (busy.chan 4).ctl.lock = .degraded ∧ (busy.chan 5).ctl.lock = .align ∧
      guardOff.valid = true ∧ guardOff.framing.mode = .length ∧ guardOff.framing.gapLimit = 0 :=
  ⟨ask_asked rfl rfl rfl c _ _, by decide +kernel, by decide +kernel, ask_fresh rfl _,
    ask_asked rfl rfl rfl c _ _, by decide, ask_fresh rfl _, by decide +kernel, by decide +kernel,
    by decide +kernel, by decide +kernel, by decide +kernel, by decide +kernel, by decide +kernel,
    by decide +kernel, rfl, rfl⟩

/-- R10, R17: with a record open the update waits; the response says pending. -/
theorem test_set_given_waits :
    after .setGiven (ask busy (req 0x07#8 0#8
      { resetGiven with framing := { resetFraming with gapLimit := 9 } }.encode)) (fun t =>
        answer t == [0x00#8, 0x01#8] && (t.chan 0).pendingUpdate &&
          (t.chan 0).working.framing.gapLimit == 4) = true := by
  decide +kernel

/-- R15, R17: with none open it is applied at once, and the epoch goes from 3 to 4. -/
theorem test_set_given_applies :
    after .setGiven (ask busy (req 0x07#8 4#8
      { resetGiven with framing := { resetFraming with gapLimit := 9 } }.encode)) (fun t =>
        answer t == [0x00#8, 0x00#8] && (t.chan 4).working.framing.gapLimit == 9 &&
          (t.chan 4).working.epoch == 4#8) = true := by
  decide +kernel

/-- Every lock state but OFF in `busy`; OFF in `off3`. -/
theorem witness_AcquireReturnsToQuiet (c : Channel) :
    let f := req 0x09#8 (BitVec.ofNat 8 c.val) []
    (ask busy f).Asked c 0x09#8 [] f [] ∧ (ask busy f).Fresh f ∧ (ask busy f).LockLaw ∧
      ((ask busy f).chan c).ctl.lock ≠ .off ∧ (off3.chan 3).ctl.lock = .off ∧
      (busy.chan 0).ctl.lock ≠ .trial ∧
      (busy.chan 0).openRecord? = some (opened [0x41] true 0) ∧
      busy.trial.service = some trial2 ∧ trial2.channel = 2 :=
  ⟨ask_asked rfl rfl rfl c _ _, ask_fresh rfl _, ask_lockLaw busy_lockLaw _,
    by revert c; decide +kernel, by decide +kernel, by decide +kernel, by decide +kernel, rfl, rfl⟩

/-- R23. -/
theorem test_acquire_in_off :
    after .acquire (ask off3 (req 0x09#8 3#8 [])) (fun t => answer t == [0x05#8]) = true := by
  decide +kernel

/-- R24, R31, R68: the trial of channel 2 is abandoned, and channel 1 is taken into service. -/
theorem test_acquire_abandons_the_trial :
    after .acquire (ask busy (req 0x09#8 2#8 [])) (fun t =>
      (t.chan 2).ctl.lock == .quiet && (t.chan 2).stats.abandonedTrials == 1 &&
        (t.chan 1).ctl.lock == .trial && t.trial.queue == []) = true := by
  decide +kernel

/-! ### Records and leases -/

/-- `busy` with no lease on channel 0. -/
def unleased : State := busyWith 0 fun k => { k with store := { k.store with lease := none } }

theorem witness_TakeGrantsALease :
    let f (m n : Nat) := req 0x0D#8 0#8 (le 1 m ++ le 2 n)
    (ask unleased (f 16 32768)).Asked 0 0x0D#8 (le 1 16 ++ le 2 32768) (f 16 32768) [] ∧
      (ask unleased (f 16 32768)).Fresh (f 16 32768) ∧ (16 : Nat) < 256 ∧ (32768 : Nat) < 65536 ∧
      (busy.chan 0).store.lease ≠ none ∧
      (busy.chan 4).store.lease = none ∧ (busy.chan 4).store.queue = [] ∧
      (unleased.chan 0).store.lease = none ∧
      (unleased.chan 0).store.queue =
        [record 2 [0x50, 0x51], record 3 [0x52]] ++ ([] : List Record) ∧
      byteSum [record 2 [0x50, 0x51], record 3 [0x52]] ≤ 32768 ∧
      (unleased.chan 0).store.queue = [record 2 [0x50, 0x51]] ++ [record 3 [0x52]] ∧
      (2 : Nat) < byteSum [record 2 [0x50, 0x51]] + (record 3 [0x52]).bytes.length :=
  ⟨ask_asked rfl rfl rfl 0 _ _, ask_fresh rfl _, by decide, by decide, by decide +kernel,
    by decide +kernel, by decide +kernel, by decide +kernel, by decide +kernel, by decide +kernel,
    by decide +kernel, by decide +kernel⟩

/-- R127, R129: max bytes 2 takes the head alone, under id 65535; the next id is 1. -/
theorem test_take_one :
    after .take (ask unleased (req 0x0D#8 0#8 (le 1 16 ++ le 2 2))) (fun t =>
      (answer t).take 4 == [0x00#8, 0xFF#8, 0xFF#8, 0x01#8] && (answer t).length == 30 &&
        (t.chan 0).store.queue == [record 3 [0x52]] && t.leaseCounter == 1) = true := by
  decide +kernel

/-- R128: a channel with a lease answers BUSY, max records 17 BAD_VALUE first. -/
theorem test_take_refused :
    after .take (ask busy (req 0x0D#8 0#8 (le 1 16 ++ le 2 2))) (fun t => answer t == [0x02#8]) =
        true ∧
      after .take (ask busy (req 0x0D#8 0#8 (le 1 17 ++ le 2 2))) (fun t =>
        answer t == [0x04#8]) = true := by
  decide +kernel

theorem witness_OtherLeaseIdsAreAnswered :
    let f (kind : Byte) (id n : Nat) := req kind 0#8 (le 2 id ++ List.replicate n 0#8)
    (ask busy (f 0x0E#8 6 5)).Asked 0 0x0E#8 (le 2 6 ++ List.replicate 5 0#8) (f 0x0E#8 6 5) [] ∧
      (ask busy (f 0x0F#8 5 1)).Asked 0 0x0F#8 (le 2 5 ++ List.replicate 1 0#8) (f 0x0F#8 5 1) [] ∧
      (ask busy (f 0x0F#8 5 1)).Fresh (f 0x0F#8 5 1) ∧ lease7.id ≠ 6 ∧ lease7.id ≠ 5 ∧
      (busy.chan 0).store.lease = some lease7 ∧ (busy.chan 0).store.lastExpired = some 6 :=
  ⟨ask_asked rfl rfl rfl 0 _ _, ask_asked rfl rfl rfl 0 _ _, ask_fresh rfl _, by decide, by decide,
    by decide +kernel, by decide +kernel⟩

theorem witness_FetchReturnsTheBytes :
    let f := req 0x0E#8 0#8 (le 2 lease7.id ++ le 1 0 ++ le 2 2 ++ le 2 1024)
    lease7.id < 65536 ∧ (busy.chan 0).store.lease = some lease7 ∧
      (ask busy f).Asked 0 0x0E#8 (le 2 lease7.id ++ le 1 0 ++ le 2 2 ++ le 2 1024) f [] ∧
      lease7.records[0]? = some (record 0 [1, 2, 3]) ∧ lease7.records[1]? = some (record 1 []) ∧
      lease7.records.length ≤ 2 ∧ (record 0 [1, 2, 3]).bytes.length = 3 :=
  ⟨by decide, by decide +kernel, ask_asked rfl rfl rfl 0 _ _, by decide, by decide, by decide,
    by decide⟩

/-- R133: two bytes from offset 1; the timer restarts at 2000 ms. -/
theorem test_fetch :
    after .fetch (ask busy (req 0x0E#8 0#8 (le 2 7 ++ le 1 0 ++ le 2 1 ++ le 2 1024))) (fun t =>
      answer t == [0x00#8, 0x02#8, 0x00#8, 0x02#8, 0x03#8] &&
        (t.chan 0).store.lease.any fun l => l.expiry == 48000 + 96000000) = true := by
  decide +kernel

/-- R132: offset 3 of a record of three bytes is refused; offset 0 of an empty one is not. -/
theorem test_fetch_offsets :
    after .fetch (ask busy (req 0x0E#8 0#8 (le 2 7 ++ le 1 0 ++ le 2 3 ++ le 2 1))) (fun t =>
        answer t == [0x04#8]) = true ∧
      after .fetch (ask busy (req 0x0E#8 0#8 (le 2 7 ++ le 1 1 ++ le 2 0 ++ le 2 1))) (fun t =>
        answer t == [0x00#8, 0x00#8, 0x00#8]) = true := by
  decide +kernel

theorem witness_FreedRecordsReturnToThePools :
    let f (n : Nat) := req 0x0F#8 0#8 (le 2 lease7.id ++ le 1 n)
    (ask busy (f 2)).Fresh (f 2) ∧ (busy.chan 0).store.lease = some lease7 ∧
      (ask busy (f 2)).Asked 0 0x0F#8 (le 2 lease7.id ++ le 1 2) (f 2) [] ∧
      lease7.records = [record 0 [1, 2, 3], record 1 []] ++ ([] : List Record) ∧
      lease7.records = [] ++ lease7.records ∧ lease7.records.length < 3 ∧
      (ask busy (req 0x11#8 0#8 [])).Fresh (req 0x11#8 0#8 []) ∧
      (ask busy (req 0x11#8 0#8 [])).Asked 0 0x11#8 [] (req 0x11#8 0#8 []) [] :=
  ⟨ask_fresh rfl _, by decide +kernel, ask_asked rfl rfl rfl 0 _ _, rfl, rfl, by decide,
    ask_fresh rfl _, ask_asked rfl rfl rfl 0 _ _⟩

/-- R134, R135: one record freed, one returned to the head and counted. -/
theorem test_release :
    after .release (ask busy (req 0x0F#8 0#8 (le 2 7 ++ le 1 1))) (fun t =>
      answer t == [0x00#8, 0x01#8, 0x01#8] && (t.chan 0).store.lease == none &&
        (t.chan 0).store.held == 3 && t.pools.freeSegments == 509 &&
        t.pools.freeDescriptors == 252 &&
        (t.chan 0).store.queue.map Record.redelivery == [1, 0, 0]) = true := by
  decide +kernel

/-- R118: two queued records freed, the lease untouched. -/
theorem test_purge :
    after .purge (ask busy (req 0x11#8 0#8 [])) (fun t =>
      answer t == [0x00#8, 0x02#8, 0x00#8] && (t.chan 0).store.queue == [] &&
        (t.chan 0).store.lease == some lease7 && t.pools.freeSegments == 510) = true := by
  decide +kernel

/-- No record, an empty one, one with a descriptor, a dropped one. -/
theorem witness_CloseHandsTheRecordOver (c : Channel) :
    let f := req 0x10#8 (BitVec.ofNat 8 c.val) []
    let withRecord (r : OpenRecord) : State :=
      busyWith 0 fun k => { k with framer := { k.framer with state := .inRecord r } }
    (ask busy f).Asked c 0x10#8 [] f [] ∧ (ask busy f).Fresh f ∧
      (busy.chan 4).openRecord? = none ∧
      (busy.chan 0).openRecord? = some (opened [0x41] true 0) ∧
      ((withRecord (opened [] true 0)).chan 0).openRecord? = some (opened [] true 0) ∧
      ((withRecord (opened [] false 3)).chan 0).openRecord? = some (opened [] false 3) ∧
      (opened [] false 3).lost ≠ 0 :=
  ⟨ask_asked rfl rfl rfl c _ _, ask_fresh rfl _, by decide +kernel, by decide +kernel,
    by decide +kernel, by decide +kernel, by decide⟩

/-- R103, R114: the record takes seq 4 and joins the tail. -/
theorem test_close :
    after .close (ask busy (req 0x10#8 0#8 [])) (fun t =>
      answer t == [0x00#8, 0x01#8] && (t.chan 0).framer.state == .between &&
        (t.chan 0).store.queue.map Record.seq == [2#32, 3#32, 4#32] &&
        (t.chan 0).store.nextSeq == 5#32) = true := by
  decide +kernel

/-- R100: the empty record's descriptor returns, and no seq is taken. -/
theorem test_close_empty :
    after .close (ask (busyWith 0 fun k =>
        { k with framer := { k.framer with state := .inRecord (opened [] true 0) } })
      (req 0x10#8 0#8 [])) (fun t =>
        (t.chan 0).store.nextSeq == 4#32 && t.pools.freeDescriptors == 252) = true := by
  decide +kernel

theorem witness_ExpiredLeaseReturnsItsRecords :
    busy.resetAsserted = false ∧ (busy.chan 0).store.lease = some lease7 := by
  decide +kernel

/-- R136. -/
theorem test_lease_expiry :
    after (.leaseExpiry 0) busy (fun t =>
      (t.chan 0).store.lease == none && (t.chan 0).store.lastExpired == some 7 &&
        (t.chan 0).store.queue.length == 4 && t.time.ticks == 1000000 &&
        t.notices.pending.any fun n => n.values == .expired 7 2) = true := by
  decide +kernel

/-! ### Notices and outputs -/

theorem witness_CreditIsAdded :
    let f := req 0x12#8 0xFF#8 [0xFF#8]
    (ask busy f).AskedDevice 0x12#8 [0xFF#8] f [] ∧ (ask busy f).Fresh f ∧
      (cachedFor f [0x00#8, 0x05#8]).AskedDevice 0x12#8 [0xFF#8] f [] ∧
      cacheEntryOf f [0x00#8, 0x05#8] ∈ (cachedFor f [0x00#8, 0x05#8]).link.cache :=
  ⟨ask_askedDevice rfl rfl rfl _ _, ask_fresh rfl _, ⟨⟨rfl, rfl, by decide, rfl⟩, rfl, rfl, rfl⟩,
    by decide +kernel⟩

/-- R148: 1 + 255 stops at 255. -/
theorem test_credit_stops :
    after .credit (ask busy (req 0x12#8 0xFF#8 [0xFF#8])) (fun t =>
      answer t == [0x00#8, 0xFF#8] && t.notices.credit == 255) = true := by
  decide +kernel

/-- Two pending notices: READY of channel 0 since 5 µs, DROPPED of channel 3 since 9 µs. -/
def noticed : State :=
  { busy with notices :=
    { pending :=
        [{ slot := .chan 0 .ready, postedAt := 5, count := 255, values := .ready },
         { slot := .chan 3 .dropped, postedAt := 9, count := 2, values := .dropped 65535 }]
      credit := 1
      nextSeq := 65535 } }

theorem witness_PostMergesIntoItsSlot :
    (∀ n ∈ noticed.notices.pending, n.slot ≠ .device .pool) ∧
      noticed.notices.pending =
        [{ slot := .chan 0 .ready, postedAt := 5, count := 255, values := .ready }] ++
          { slot := .chan 3 .dropped, postedAt := 9, count := 2, values := .dropped 65535 } :: [] ∧
      (∀ m ∈ [({ slot := .chan 0 .ready, postedAt := 5, count := 255, values := .ready } : Notice)],
        m.slot ≠ .chan 3 .dropped) := by
  decide +kernel

/-- R143, R145: counts stop at 255 and 65535, and the time of the first post is kept. -/
theorem test_post_saturates :
    (noticed.postChan 0 .ready .ready).notices.pending.map Notice.count = [255, 2] ∧
      ((noticed.postChan 3 .dropped (.dropped 1)).notices.pending.map fun n =>
        (n.postedAt, n.count, n.values)) = [(5, 255, .ready), (9, 3, .dropped 65535)] := by
  decide +kernel

theorem witness_FirstNoticeIsSent :
    let n : Notice :=
      { slot := .chan 3 .dropped, postedAt := 9, count := 2, values := .dropped 65535 }
    noticed.resetAsserted = false ∧ noticed.link.transmit = none ∧ noticed.link.restart ≠ .due ∧
      noticed.link.responses = [] ∧ 1 ≤ noticed.notices.credit ∧ n ∈ noticed.notices.pending ∧
      (∀ m ∈ noticed.notices.pending, m ≠ n →
        n.slot.rank < m.slot.rank ∨
          (n.slot.rank = m.slot.rank ∧
            (n.postedAt < m.postedAt ∨
              (n.postedAt = m.postedAt ∧ n.slot.number < m.slot.number)))) ∧
      noticed.link.selection ≠ .spi ∧
      (noticed.modLink fun l => { l with selection := .spi }).link.selection = .spi ∧
      n.slot = .chan 3 .dropped ∧
      ({ n with slot := .device .pool, values := .pool 4 } : Notice).slot = .device .pool := by
  decide +kernel

/-- R181: 115200 bit/s 7E2 regained, and an offset of −2 per mille. -/
theorem test_kind_values :
    noticed.kindValues
        { slot := .chan 3 .locked, postedAt := 0, count := 1
          values := .locked 9 115200 { dataBits := 7, parity := .even, stopBits := 2 } true } =
          [9, 0x00, 0xC2, 0x01, 0x00, 7, 1, 2, 1] ∧
      noticed.kindValues
        { slot := .chan 3 .degraded, postedAt := 0, count := 1
          values := .degraded .drift 258 (-2) } = [1, 0x02, 0x01, 0xFE] := by
  decide +kernel

/-- R146, R149, R150: class 1 goes first; the sequence wraps from 65535 to 0 and the credit is 0. -/
theorem test_notice_send :
    after .noticeSend noticed (fun t =>
      t.notices.pending.map Notice.slot == [.chan 0 .ready] && t.notices.credit == 0 &&
        t.notices.nextSeq == 0#16 && t.link.transmit.isSome && t.attnPin == .low) = true := by
  decide +kernel

/-- R171, R177: the byte that starts the notice is received: A5h begins a frame of the host. -/
theorem test_spi_notice_starts_with_a_byte_received :
    after (.receivedByte 0 0xA5#8 true) (noticed.modLink fun l => { l with selection := .spi })
      (fun t => t.link.sdo == 0xA5#8 && t.link.transmit.isSome &&
        t.link.receiver.state == .sync2) = true := by
  decide +kernel

/-- R177: in SPI nothing starts but with the next byte clocked. -/
theorem test_spi_notice_waits_for_the_byte :
    let spi := noticed.modLink fun l => { l with selection := .spi }
    after .noticeSend spi (fun t => t == spi) = true ∧
      after (.receivedByte 0 0x00#8 true) spi (fun t =>
        t.link.sdo == 0xA5#8 && t.notices.credit == 0 &&
          t.link.transmit.any fun f => f.clocked == 1) = true := by
  decide +kernel

theorem witness_OutputPinsFollowTheState :
    busy.resetAsserted = false ∧ ({ busy with resetAsserted := true } : State).resetAsserted = true ∧
      (busy.chan 0).config.holdPolarity = .activeLow ∧
      ((busyWith 0 fun k => { k with config := { k.config with holdPolarity := .activeHigh } }).chan
        0).config.holdPolarity = .activeHigh := by
  decide +kernel

/-! ### Resets -/

theorem witness_ResetChannelClearsTheChannel (c : Channel) :
    let f := req 0x13#8 (BitVec.ofNat 8 c.val) []
    (ask busy f).Asked c 0x13#8 [] f [] ∧ (ask busy f).Fresh f ∧ (ask busy f).LockLaw ∧
      (busy.chan 0).config.mode = .listen ∧ (busy.chan 0).ctl.lock ≠ .trial ∧
      busy.trial.service = some trial2 ∧ trial2.channel = 2 :=
  ⟨ask_asked rfl rfl rfl c _ _, ask_fresh rfl _, ask_lockLaw busy_lockLaw _, by decide +kernel,
    by decide +kernel, rfl, rfl⟩

/-- R125, R166: channel 0's four segments and five descriptors return. -/
theorem test_reset_channel :
    after .resetChannel (ask busy (req 0x13#8 0#8 [])) (fun t =>
      t.pools.freeSegments == 512 && t.pools.freeDescriptors == 256 &&
        (t.chan 0).ctl.lock == .quiet && (t.chan 0).working.epoch == 0#8 &&
        (t.chan 0).store == resetChannelStore && t.leaseCounter == 65535) = true := by
  decide +kernel

/-- `busy` with the soft restart due. -/
def restarting : State := busy.modLink fun l => { l with restart := .due }

theorem witness_RestartResetsTheDevice :
    (ask busy (req 0x14#8 0xFF#8 [])).AskedDevice 0x14#8 [] (req 0x14#8 0xFF#8 []) [] ∧
      restarting.resetAsserted = false ∧ restarting.link.restart = .due ∧
      restarting.inService 0 = false ∧ restarting.trial.service = some trial2 :=
  ⟨ask_askedDevice rfl rfl rfl _ _, rfl, rfl, rfl, rfl⟩

theorem test_restart :
    after .restart (ask busy (req 0x14#8 0xFF#8 [])) (fun t =>
      answer t == [0x00#8] && t.link.inbox == [] && t.link.restart == .awaiting) = true := by
  decide +kernel

/-- R169: the Time Base and the configurations are kept; STARTED (SOFT) is the one notice. -/
theorem test_soft_restart :
    after .softRestart restarting (fun t =>
      t.time == busy.time && t.leaseCounter == 1 && t.pools == resetPools &&
        (t.chan 4).config == listening && (t.chan 4).ctl.lock == .quiet &&
        t.notices.pending.map Notice.values == [.started .soft 3]) = true := by
  decide +kernel

/-- R170: power-up and the end of RESET, with the lines high and the straps low, give the reset
state. -/
theorem test_power_up_is_reset :
    after (.resetDeasserted false false) (State.reset.hardwareReset .power) (fun t =>
      t == State.reset) = true := by
  decide +kernel

theorem witness_HardwareResetRestoresTheDevice : busy.resetAsserted = false := rfl

/-- R71: a line that falls while RESET is asserted is low for its filter at the deassertion. -/
theorem test_line_moves_under_reset :
    after (.resetDeasserted false false)
      { busy.hardwareReset .pin with lineIn := busy.lineIn.set 3 .low } (fun t =>
        (t.chan 3).sampler.accepted == .low && (t.chan 2).sampler.accepted == .high) = true := by
  decide +kernel

/-- R154, R171: the RESET pin gives reason PIN; both straps high select SPI. -/
theorem test_pin_reset :
    after (.resetDeasserted true true) (busy.hardwareReset .pin) (fun t =>
      t.link.selection == .spi && (t.chan 0).ctl.lock == .off && t.time.ticks == 0 &&
        t.notices.pending.map Notice.values == [.started .pin 3]) = true := by
  decide +kernel

theorem test_hardware_reset :
    after (.hardwareReset .pin) busy (fun t =>
      t.resetAsserted && t.holdPin 0 == .high && t.attnPin == .high) = true := by
  decide +kernel

/-! ### The link -/

/-- `busy` with the receiver in state `st`, these bytes in hand, the last at tick 48000. -/
def receiving (st : ReceiverState) (bytes : List Byte) : State :=
  busy.modLink fun l => { l with receiver := { state := st, buffer := bytes, lastByte := 48000 } }

/-- A response with this body. -/
def response (body : List Byte) : Response :=
  { kind := 0x82#8, tag := 1, channel := 0xFF#8, body := body }

/-- `noticed` with a response waiting. -/
def responding : State := noticed.modLink fun l => { l with responses := [response [0]] }

/-- A device sending a frame of three bytes. -/
def sending (sel : LinkSelection) (clocked : Nat) : State :=
  busy.modLink fun l =>
    { l with
      selection := sel
      transmit := some { frame := [1, 2, 3], clocked := clocked, started := 48000 } }

/-- A device in SPI, part of the way through a frame of three bytes. -/
def spiSending (clocked : Nat) (responses : List Response) : State :=
  (sending .spi clocked).modLink fun l => { l with responses := responses }

/-- A device in SPI with a response waiting. -/
def spiResponding : State := responding.modLink fun l => { l with selection := .spi }

theorem witness_ReceiverFollowsTheBytes :
    busy.resetAsserted = false ∧ busy.link.selection ≠ .spi ∧
      (busy.modLink fun l => { l with selection := .spi }).link.selection = .spi ∧
      (spiSending 1 []).link.transmit =
        some { frame := [1, 2, 3], clocked := 1, started := 48000 } ∧
      (spiSending 3 []).link.transmit =
        some { frame := [1, 2, 3], clocked := 3, started := 48000 } ∧
      (spiResponding.link.selection = .spi ∧ spiResponding.link.transmit = none ∧
        spiResponding.link.restart ≠ .due ∧ spiResponding.link.responses = response [0] :: []) ∧
      (busy.modLink fun l => { l with selection := .spi }).link.responses = [] ∧
      (busy.notices.pending ≠ [] ∧ busy.notices.credit = 1 ∧ resetNotices.pending = []) ∧
      (receiving .hunt []).link.receiver.state = .hunt ∧
      (receiving .sync2 []).link.receiver.state = .sync2 ∧
      (receiving .header [1, 0]).link.receiver.overLong = false ∧
      (receiving .header [0x40, 0x04]).link.receiver.overLong = false ∧
      (receiving .header [1, 0, 5, 0]).link.receiver.buffer.length = 4 ∧
      2 ≤ (receiving .body [1, 0, 5, 0, 0]).link.receiver.buffer.length ∧
      (receiving .check [0, 0, 5, 0, 0, 7, 8]).link.receiver.complete = true ∧
      (receiving .header [0x41, 0x04]).link.receiver.overLong = true ∧
      (receiving .header [1]).link.receiver.lastByte + 960000 <
        (receiving .header [1]).time.ticks + 960001 ∧
      (receiving .check [0, 0, 5, 0, 0, 7]).link.receiver.complete = false ∧
      (receiving .check [0, 0, 5, 0, 0]).time.ticks + 960000 ≤
        (receiving .check [0, 0, 5, 0, 0]).link.receiver.lastByte + 960000 := by
  decide +kernel

/-- R172: the fifth header byte of a frame with no body leads to CHECK. -/
theorem test_received_byte :
    after (.receivedByte 100 0xFF#8 false) (receiving .header [0, 0, 1, 9]) (fun t =>
      t.link.receiver == { state := .check, buffer := [0, 0, 1, 9, 0xFF], lastByte := 48100 }) =
      true := by
  decide +kernel

/-- R172, R173: a byte that finds a frame of 1089 body bytes announced, or one 20 ms and a tick old,
comes after that frame has been discarded and counted. -/
theorem test_byte_after_a_dead_frame :
    after (.receivedByte 0 0xA5#8 false) (receiving .header [0x41, 0x04]) (fun t =>
        t.link.receiver.state == .sync2 &&
          t.notices.pending.any fun n => n.values == .linkError 0 1 0 0) = true ∧
      after (.receivedByte 960001 0xA5#8 false) (receiving .header [1]) (fun t =>
        t.link.receiver.state == .sync2 &&
          t.notices.pending.any fun n => n.values == .linkError 0 0 1 0) = true := by
  decide +kernel

/-- R171: a byte clocked with SCS high is ignored. -/
theorem test_spi_byte_ignored :
    after (.receivedByte 0 0xA5#8 false) (busy.modLink fun l => { l with selection := .spi })
      (fun t => t.link.receiver.state == .hunt) = true := by
  decide +kernel

/-- R171, R177: the byte clocked with SCS low starts the response, and each one shifts one byte out. -/
theorem test_spi_byte_shifts_one_out :
    after (.receivedByte 0 0x00#8 true) spiResponding (fun t =>
        t.link.sdo == 0xA5#8 && t.link.responses == [] &&
          t.link.transmit.any fun f => f.clocked == 1) = true ∧
      after (.receivedByte 0 0x00#8 true) (spiSending 1 []) (fun t => t.link.sdo == 0x02#8) = true := by
  decide +kernel

/-- The bytes of a TIME request after the sync bytes, with this check. -/
def timeFrame (check : BitVec 16) : List Byte :=
  coveredBytes 0x02#8 0x31#8 0xFF#8 [] ++ checkBytes check

/-- A sound and a damaged frame, an empty and a full inbox, a length of 1089, a frame cut short. -/
theorem witness_ReceivedFramesAreChecked :
    let sum := crc16 (coveredBytes 0x02#8 0x31#8 0xFF#8 [])
    busy.resetAsserted = false ∧ busy.link.restart = .idle ∧
      (receiving .check (timeFrame sum)).link.receiver.buffer =
        coveredBytes 0x02#8 0x31#8 0xFF#8 [] ++
          [sum.extractLsb' 8 8, sum.extractLsb' 0 8] ∧
      (sum.extractLsb' 8 8 ++ sum.extractLsb' 0 8 : BitVec 16) = sum ∧
      ¬((0#8 ++ 0#8 : BitVec 16) = sum) ∧ busy.link.inbox.length < 4 ∧
      4 ≤ ((receiving .check (timeFrame sum)).modLink fun l =>
        { l with inbox := List.replicate 4 (req 0x02#8 0xFF#8 []) }).link.inbox.length ∧
      1088 < (0x41#8).toNat + 256 * (0x04#8).toNat ∧
      (receiving .body [1, 0, 5, 0, 0]).link.receiver.overLong = false ∧
      (receiving .body [1, 0, 5, 0, 0]).link.receiver.complete = false ∧
      ((receiving .check (timeFrame sum)).modLink fun l =>
        { l with restart := .awaiting }).link.restart ≠ .idle := by
  decide +kernel

theorem test_frame_received :
    after .frameReceived
      (receiving .check (timeFrame (crc16 (coveredBytes 0x02#8 0x31#8 0xFF#8 [])))) (fun t =>
        t.link.inbox == [req 0x02#8 0xFF#8 []] && t.link.receiver.state == .hunt) = true := by
  decide +kernel

theorem test_frame_with_bad_check :
    after .frameReceived (receiving .check (timeFrame 0)) (fun t =>
      t.link.inbox == [] &&
        t.notices.pending.any fun n => n.values == .linkError 1 0 0 0) = true := by
  decide +kernel

/-- R178: while a RESTART waits a sound frame is discarded. -/
theorem test_frame_discarded_while_a_restart_waits :
    after .frameReceived
      ((receiving .check (timeFrame (crc16 (coveredBytes 0x02#8 0x31#8 0xFF#8 [])))).modLink fun l =>
        { l with restart := .awaiting }) (fun t =>
        t.link.inbox == [] && t.link.receiver.state == .hunt && t.notices == busy.notices) = true := by
  decide +kernel

/-- 1089 is over-long, 1088 is not. -/
theorem test_length_discard :
    after .lengthDiscard (receiving .header [0x41, 0x04]) (fun t =>
        t.link.receiver.state == .hunt &&
          t.notices.pending.any fun n => n.values == .linkError 0 1 0 0) = true ∧
      after .lengthDiscard (receiving .header [0x40, 0x04]) (fun t =>
        t.link.receiver.state == .header) = true := by
  decide +kernel

/-- More than 20 ms: 960,000 ticks and one more. -/
theorem test_receive_timeout :
    after .receiveTimeout (receiving .body [1, 0, 5, 0, 0]) (fun t =>
      t.time.ticks == 48000 + 960001 && t.link.receiver.state == .hunt) = true := by
  decide +kernel

/-- A lone A5h followed by silence is no frame. -/
theorem test_no_timeout_in_sync2 :
    after .receiveTimeout (receiving .sync2 []) (fun t =>
      t.link.receiver.state == .sync2 && t.time.ticks == 48000) = true := by
  decide +kernel

theorem witness_ResponsesAreSentInOrder :
    responding.resetAsserted = false ∧ responding.link.responses = [response [0]] ∧
      responding.link.transmit = none ∧ responding.link.restart ≠ .due ∧
      (sending .uart115200 0).link.transmit ≠ none ∧
      (sending .uart3000000 0).link.selection.bitRate = some 3000000 ∧
      (sending .uart115200 0).link.responses = [] ∧ (sending .uart115200 0).link.restart = .idle ∧
      ((sending .uart115200 0).modLink fun l => { l with restart := .awaiting }).link.restart =
        .awaiting ∧
      ({ sending .uart115200 0 with notices := resetNotices } : State).notices.pending = [] ∧
      (sending .spi 3).link.transmit =
        some { frame := [1, 2, 3], clocked := 3, started := 48000 } ∧
      spiResponding.link.selection = .spi ∧ responding.link.selection ≠ .spi ∧
      (sending .uart115200 0).notices.pending ≠ [] ∧ 1 ≤ (sending .uart115200 0).notices.credit ∧
      ((sending .spi 3).modLink fun l => { l with restart := .awaiting }).link.restart =
        .awaiting ∧
      ((sending .spi 3).link.responses = [] ∧ (spiSending 3 [response [0]]).link.responses ≠ []) := by
  decide +kernel

/-- R177: the response goes before the notice. -/
theorem test_response_send :
    after .responseSend responding (fun t =>
      t.link.responses == [] && t.link.transmit.isSome && t.notices.pending.length == 2) = true := by
  decide +kernel

/-- R177: in SPI the response stays in its queue until a byte is clocked. -/
theorem test_spi_response_waits :
    after .responseSend spiResponding (fun t => t == spiResponding) = true := by
  decide +kernel

/-- R168, R178: in SPI too the restart is due when the RESTART response has gone out. -/
theorem test_spi_restart_response_sent :
    after .frameSentWhole ((sending .spi 3).modLink fun l => { l with restart := .awaiting })
      (fun t => t.link.restart == .due && t.link.transmit == none) = true := by
  decide +kernel

/-- Three bytes at 3,000,000 bit/s take 30 bits of 16 ticks; the pending notice then starts. -/
theorem test_frame_sent_whole :
    after .frameSentWhole (sending .uart3000000 0) (fun t =>
      t.time.ticks == 48000 + 480 && t.notices.pending == [] && t.link.transmit.isSome) = true := by
  decide +kernel

/-- R168, R178: the restart is due when the RESTART response has gone out. -/
theorem test_restart_response_sent :
    after .frameSentWhole ((sending .uart115200 0).modLink fun l => { l with restart := .awaiting })
      (fun t => t.link.restart == .due && t.link.transmit == none) = true := by
  decide +kernel

/-! ### Time, lines and gathering -/

/-- The counter at its last microsecond, the wrap count at its greatest value. -/
def lateTime : State :=
  { busy with time :=
    { counter := 0xFFFFFFFF#32, wraps := 0xFFFF#16, ticks := 281474976710655 * 48 + 5 } }

theorem witness_CounterWrapRaisesTheWrapCount :
    lateTime.resetAsserted = false ∧ lateTime.TimeLaw :=
  ⟨rfl, by decide +kernel, by decide +kernel⟩

/-- R70: both counts pass to 0. -/
theorem test_time_wrap :
    after .timeWrap lateTime (fun t => t.time.counter == 0#32 && t.time.wraps == 0#16) = true := by
  decide +kernel

/-- Channel 3 with a change pending since tick 48000; the glitch limit is 4. -/
def changing : State :=
  { (busyWith 3 fun k => { k with sampler := { k.sampler with pendingChange := some 48000 } }) with
    lineIn := busy.lineIn.set 3 .low }

theorem witness_GlitchFilterFollowsTheInput :
    ({ busy with resetAsserted := true } : State).resetAsserted = true ∧
      busy.resetAsserted = false ∧ (busy.chan 3).sampler.pendingChange = none ∧
      (changing.chan 3).sampler.pendingChange = some 48000 ∧
      changing.time.ticks + 3 < 48000 + (changing.chan 3).config.glitchLimit ∧
      48000 + (changing.chan 3).config.glitchLimit ≤ changing.time.ticks + 4 := by
  decide +kernel

/-- R72: a pulse of 3 ticks leaves no trace; one of 4 is an edge, and starts a gather in QUIET. -/
theorem test_line_input_change :
    after (.lineInputChange 3 3) changing (fun t =>
        (t.chan 3).sampler.pendingChange == none && (t.chan 3).ctl.lock == .quiet) = true ∧
      after (.lineInputChange 3 4) changing (fun t =>
        (t.chan 3).ctl.lock == .gather && (t.chan 3).sampler.pendingChange == some 48004) = true := by
  decide +kernel

/-- `changing` with channel 3 as `f` makes it. -/
def changingWith (f : Chan → Chan) : State := changing.modChan 3 f

/-- A gather of channel 3 with `n` edges stored and gather target 33. -/
def gathering (n : Nat) : State :=
  changingWith fun k =>
    { k with
      sampler := { k.sampler with ring := ringOf n, lastCapture := some 40000 }
      ctl := { k.ctl with lock := .gather, gatherTarget := 33, gatherTimer := some 90000 } }

/-- Channel 3 LOCKED, the change of its line still pending, the sampler at `d`. -/
def decodingWith (d : Decode) : State :=
  changingWith fun k =>
    { k with ctl := { k.ctl with lock := .locked }, sampler := { k.sampler with decode := d } }

theorem witness_EdgesAreUsedByLockState :
    changing.resetAsserted = false ∧ (changing.chan 3).sampler.pendingChange = some 48000 ∧
      (changing.chan 3).ctl.lock = .quiet ∧
      ((changingWith fun _ => { idleIn .failed with sampler := (changing.chan 3).sampler }).chan
        3).ctl.lock = .failed ∧
      ((gathering 31).chan 3).ctl.lock = .gather ∧
      ((gathering 31).chan 3).sampler.lastCapture = some 40000 ∧
      ((gathering 31).chan 3).sampler.ring.length + 1 < ((gathering 31).chan 3).ctl.gatherTarget ∧
      ((gathering 32).chan 3).ctl.gatherTarget ≤ ((gathering 32).chan 3).sampler.ring.length + 1 ∧
      ((decodingWith (.hunt 0)).chan 3).ctl.lock = .locked ∧
      ((decodingWith (.hunt 0)).chan 3).sampler.decode = .hunt 0 ∧
      ((decodingWith (.hunt 0)).chan 3).sampler.edges = [] ∧
      ((decodingWith (.sampling 9 1280000)).chan 3).sampler.decode = .sampling 9 1280000 ∧
      ((decodingWith (.waitMark 48000)).chan 3).sampler.decode = .waitMark 48000 ∧
      ((gathering 32).chan 3).ctl.gatherTimer = some 90000 ∧
      32 ≤ ((gathering 32).chan 3).sampler.ring.length ∧
      ((gathering 31).chan 3).sampler.ring.length < 32 := by
  decide +kernel

/-- R25, R75: the first capture entry counts from the QUIET reference, tick 0. -/
theorem test_filtered_edge :
    after (.filteredEdge 3) changing (fun t =>
      (t.chan 3).sampler.ring == [{ level := .low, interval := 48000 }] &&
        (t.chan 3).sampler.idleLevel == .high && t.time.ticks == 48004) = true := by
  decide +kernel

/-- R26: the edge that reaches the gather target queues the channel. -/
theorem test_gather_completes :
    after (.filteredEdge 3) (gathering 32) (fun t =>
      (t.chan 3).ctl.lock == .queued && t.trial.queue == [1, 3] &&
        (t.chan 3).sampler.ring.length == 33) = true := by
  decide +kernel

/-- R27: 31 edges stay in GATHER, 32 are queued. -/
theorem test_gather_quiet_expiry :
    after (.gatherQuietExpiry 6) busy (fun t =>
        (t.chan 6).ctl.lock == .gather && (t.chan 6).ctl.gatherTimer == none) = true ∧
      after (.gatherQuietExpiry 3) (gathering 32) (fun t => (t.chan 3).ctl.lock == .queued) = true := by
  decide +kernel

/-! ### Trials -/

/-- The intervals of the example of R55, in a ring; its estimate is 19,181 bit/s. -/
def example55 : List CaptureEntry :=
  [9, 1990, 7000, 2480, 2493, 2500, 2500, 2512, 2530, 16777215].map fun w =>
    { level := .low, interval := w }

theorem test_rate_estimate_of_the_example : estimateRate 3 example55 = some 19181 := by
  decide +kernel

/-- The base 2480 of that example, and a ring of saturated intervals, which has none. -/
theorem witness_RateEstimateIsTheFirstCluster :
    let usable :=
      ((example55.drop 1).map CaptureEntry.interval).filter fun w => decide (w < 16777215)
    let cluster (w : Nat) := usable.filter fun x => decide (w ≤ x ∧ x * 100 ≤ w * (100 + 3))
    (∀ e ∈ example55, e.interval ≤ 16777215) ∧ 2480 ∈ usable ∧ 3 ≤ (cluster 2480).length ∧
      0 < (cluster 2480).sum ∧ (∀ x ∈ usable, x < 2480 → (cluster x).length < 3) ∧
      (∀ w ∈ (([] : List CaptureEntry).map CaptureEntry.interval), (cluster w).length < 3) := by
  decide +kernel

/-- `busy` with the unit free. -/
def freeUnit : State := { busy with trial := { service := none, queue := [1] } }

/-- `busy` with the trial of channel 2 as `f` makes it. -/
def trying (f : Trial → Trial) : State :=
  { busy with trial := { busy.trial with service := some (f trial2) } }

theorem witness_TrialPhasesFollowTheirOrder :
    busy.resetAsserted = false ∧ freeUnit.trial.service = none ∧ freeUnit.trial.queue = 1 :: [] ∧
      busy.trial.service = some trial2 ∧ trial2.candidates = none ∧ trial2.verdict = none ∧
      (trying fun t => { t with candidates := some [verify] }).trial.service =
        some { trial2 with candidates := some [verify] } ∧
      [verify][trial2.position]? = some verify ∧ trial2.snapshot.given.valid = true := by
  decide +kernel

/-- At 9600 bit/s and 8N1 a bit lasts 5000 ticks: a false start of half a bit, a break of eleven bits,
a line that ends within a character, and the character 41h up to its stop-bit sample. -/
theorem witness_TrialPhasesFollowTheirOrder_evaluation :
    let anywhere : HuntPoint := { base := 0, halves := 0, anyEdge := true }
    let behind : HuntPoint := { base := 50000, halves := 19, anyEdge := false }
    0 < verify.nominal ∧ verify.line.polarity.space = .low ∧ verify.line.format.charBits = 10 ∧
      anywhere.admits verify.nominal 50000 = true ∧ behind.admits verify.nominal 97500 = false ∧
      behind.admits verify.nominal 97501 = true ∧
      (10 + 1) * 48000000 ≤ 55000 * verify.nominal ∧
      (2 * 2500 * verify.nominal ≤ 48000000 ∧ Level.high ≠ verify.line.polarity.space) ∧
      (48000000 < 2 * 2501 * verify.nominal ∧ 54999 * verify.nominal < (10 + 1) * 48000000 ∧
        2 * 47499 * verify.nominal < (2 * 10 - 1) * 48000000) ∧
      5000 * verify.nominal = 48000000 ∧
      [true, false, false, false, false, false, true, false].length =
        verify.line.format.dataBits ∧
      [true].length = verify.line.format.stopBits ∧ (2 * 10 - 1) * 5000 ≤ 2 * (97500 - 50000) := by
  decide +kernel

theorem test_trial_start :
    after .trialStart freeUnit (fun t =>
      (t.chan 1).ctl.lock == .trial && t.trial.queue == [] &&
        t.trial.service.any fun x => x.channel == 1 && x.position == 0) = true := by
  decide +kernel

/-- R55, R60: an empty capture has no estimate, and with nothing to verify the outcome is NO_RATE. -/
theorem test_rate_estimate_fails :
    after .rateEstimate busy (fun t =>
      t.trial.service.any fun x =>
        x.verdict == some { outcome := .noRate, chosen := none } && x.position == 0) = true := by
  decide +kernel

/-- R65: the last candidate of the list does not fit; the estimate had been made. -/
theorem test_candidate_evaluated :
    after .candidateEvaluated
      (trying fun t => { t with candidates := some [verify], estimate := some 9600 }) (fun t =>
        t.trial.service.any fun x =>
          x.position == 1 && x.verdict == some { outcome := .noFit, chosen := none }) = true := by
  decide +kernel

/-- A failing and a fitting end of the trial of channel 2. -/
def ended (v : Verdict) : State := trying fun t => { t with verdict := some v }

theorem ended_lockLaw :
    (ended { outcome := .fit, chosen := some verify }).LockLaw :=
  ⟨busy_channels, by decide +kernel, by decide +kernel, by decide +kernel⟩

/-- A trial of channel 2 that has ended FIT, its framing in LENGTH mode with the guard off. -/
def endedAtOnce : State :=
  (ended { outcome := .fit, chosen := some verify }).modChan 2 fun k =>
    { k with working := { k.working with framing := guardOff.framing } }

theorem endedAtOnce_channels (c : Channel) : (endedAtOnce.chan c).LockLaw := by
  constructor <;> (revert c; decide +kernel)

theorem witness_TrialOutcomeIsHandedBack :
    let lost : Verdict := { outcome := .noFit, chosen := none }
    let won : Verdict := { outcome := .fit, chosen := some verify }
    (ended lost).resetAsserted = false ∧
      (ended lost).trial.service = some { trial2 with verdict := some lost } ∧
      ((ended lost).chan 2).ctl.retryCount + 1 ≤ ((ended lost).chan 2).config.retryLimit ∧
      ((ended lost).chan 2).ctl.gatherTimer = none ∧
      (((ended lost).modChan 2 fun k => { k with config := { k.config with retryLimit := 0 } }).chan
        2).config.retryLimit < ((ended lost).chan 2).ctl.retryCount + 1 ∧
      (ended won).trial.service = some { trial2 with verdict := some won } ∧ (ended won).LockLaw ∧
      ((ended won).chan 2).working.framing.mode = .gap ∧ verify.nominal ≠ 0 ∧
      endedAtOnce.trial.service = some { trial2 with verdict := some won } ∧
      endedAtOnce.LockLaw ∧ (endedAtOnce.chan 2).pendingUpdate = false ∧
      (endedAtOnce.chan 2).working.framing = guardOff.framing := by
  refine ⟨?_, ?_, ?_, ?_, ?_, ?_, ended_lockLaw, ?_, ?_, ?_, ⟨endedAtOnce_channels, ?_, ?_, ?_⟩, ?_,
    ?_⟩ <;> decide +kernel

/-- R29: FIT with another rate raises the epoch, posts PROFILE and enters ALIGN; channel 1 is taken. -/
theorem test_trial_complete_fit :
    after .trialComplete
      (ended { outcome := .fit, chosen := some { verify with nominal := 19200 } }) (fun t =>
        (t.chan 2).ctl.lock == .align && (t.chan 2).working.nominal == 19200 &&
          (t.chan 2).working.epoch == 1#8 && (t.chan 2).working.confirmed &&
          (t.chan 1).ctl.lock == .trial &&
          t.notices.pending.any fun n => n.slot == .chan 2 .profile) = true := by
  decide +kernel

/-- R30: the first failure of a channel with retry limit 3 goes back to QUIET. -/
theorem test_trial_complete_no_fit :
    after .trialComplete (ended { outcome := .noFit, chosen := none }) (fun t =>
      (t.chan 2).ctl.lock == .quiet && (t.chan 2).ctl.retryCount == 1 &&
        (t.chan 2).stats.failedTrials == 1) = true := by
  decide +kernel

/-! ### Characters, breaks and windows -/

/-- Channel 0 sampling from the start edge at tick 50,000, at 5000 ticks a bit, with these edges. -/
def sampling (d : Decode) (edges : List Edge) : State :=
  busyWith 0 fun k => { k with sampler := { k.sampler with decode := d, edges := edges } }

/-- The edges of the character 41h, 8N1, from its start edge at tick 50,000. -/
def edgesOf41 : List Edge :=
  lineEdges .normal 50000 5000 1 false
    [true, false, false, false, false, false, true, false, true]

/-- `sampling` with the gap timer running to `x` and the change `d` pending. -/
def gapSampling (d : Decode) (edges : List Edge) (x : Instant) (change : Option Nat) : State :=
  (sampling d edges).modChan 0 fun k =>
    { k with
      sampler := { k.sampler with pendingChange := change }
      framer := { k.framer with gapTimer := some x } }

/-- An edge back to mark before the middle of the start bit, and a second start edge behind it. -/
def falseEdges : List Edge := [{ tick := 51000, level := .high }, { tick := 51500, level := .low }]

theorem witness_FalseStartsAndBreaksAreNoCharacters :
    let s := gapSampling (.sampling 50000 1280000) (falseEdges.take 1) { num := 50001, den := 1 } none
    s.resetAsserted = false ∧ (s.chan 0).sampler.decode = .sampling 50000 1280000 ∧
      (s.chan 0).sampler.pendingChange = none ∧
      ((gapSampling (.sampling 50000 1280000) falseEdges { num := 1, den := 1 } (some 52501)).chan
        0).sampler.pendingChange = some 52501 ∧
      startSample 50000 1280000 < 52501 ∧
      levelAt .low (s.chan 0).sampler.edges (startSample 50000 1280000) = .high ∧
      (∀ e ∈ (s.chan 0).sampler.edges, e.level = .high) ∧
      falseEdges.dropWhile (fun e => decide (e.level = .high)) =
        [{ tick := 51500, level := .low }] ∧
      (s.chan 0).framer.gapTimer = some { num := 50001, den := 1 } ∧
      ¬52504 < ({ num := 50001, den := 1 } : Instant).ceil + 4 ∧
      52504 < ({ num := 52501, den := 1 } : Instant).ceil + 4 ∧
      ((sampling (.spaceHeld 50000 1280000) []).chan 0).sampler.decode =
        .spaceHeld 50000 1280000 ∧
      0 < 1280000 ∧ 256 * 50000 + (10 + 1) * 1280000 ≤ 256 * 105000 ∧
      ((sampling (.spaceHeld 50000 1280000) []).chan 0).framer.state ≠ .idle ∧
      ((sampling (.spaceHeld 50000 1280000) []).chan 0).framer.gapTimer = none ∧
      ({ num := 50001, den := 1 } : Instant).after 50000 = true ∧
      ({ num := 50000, den := 1 } : Instant).after 50000 = false ∧
      ((sampling (.sampling 50000 1280000) []).chan 0).sampler.decode = .sampling 50000 1280000 ∧
      levelAt .low ((sampling (.sampling 50000 1280000) []).chan 0).sampler.edges
        (startSample 50000 1280000) = .low := by
  decide +kernel

/-- R79. -/
theorem test_false_start :
    after (.falseStart 0)
      (sampling (.sampling 50000 1280000) [{ tick := 51000, level := .high }]) (fun t =>
        (t.chan 0).stats.falseStarts == 1 && (t.chan 0).sampler.decode == .hunt 50000 &&
          t.time.ticks == 52504) = true := by
  decide +kernel

/-- R92: the expiry held on the false start is taken with it, at its own instant: 50,001 ticks are
1041 µs. -/
theorem test_false_start_takes_the_held_expiry :
    after (.falseStart 0)
      (gapSampling (.sampling 50000 1280000) (falseEdges.take 1) { num := 50001, den := 1 } none)
      (fun t =>
        (t.chan 0).framer.state == .between && (t.chan 0).framer.gapTimer == none &&
          (t.chan 0).store.queue.map (fun r => (r.cause, r.endTime)) ==
            [(.gap, 200#32), (.gap, 200#32), (.gap, 1041#32)]) = true := by
  decide +kernel

/-- R92: a second start edge before the instant goes on holding it. -/
theorem test_false_start_before_another_start :
    after (.falseStart 0)
      (gapSampling (.sampling 50000 1280000) falseEdges { num := 51501, den := 1 } none) (fun t =>
        (t.chan 0).framer.gapTimer == some { num := 51501, den := 1 } &&
          (t.chan 0).store.queue.length == 2) = true := by
  decide +kernel

/-- R98: in GAP mode, the gap timer running, the break closes the open record. -/
theorem test_break_while_the_gap_runs :
    after (.breakEvent 0)
      (gapSampling (.spaceHeld 50000 1280000) [] { num := 50001, den := 1 } none) (fun t =>
        (t.chan 0).stats.breaks == 1 &&
          (t.chan 0).store.queue.map Record.cause == [.gap, .gap, .brk]) = true := by
  decide +kernel

/-- R70, R77, R82: at 921,600 bit/s ten bits end 520.8 ticks after the start edge at tick 50,023, in
microsecond 1052, and not at tick 50,544, where 1053 begins. -/
theorem test_end_time_is_exact :
    (decodeCharacter resetLine [] 50023 13333).endTime = 1052#32 ∧ 50544 / 48 = 1053 := by
  decide +kernel

/-- R91: its own example: 200,000 ticks with gap limit 4 at 9600 bit/s 8N1. -/
theorem test_gap_length_of_the_example :
    ((gapFrom resetWorking { num := 25600001, den := 256 }).all fun y =>
      y.num * 256 == (25600001 + 256 * 200000) * y.den) = true := by
  decide +kernel

/-- R81: the break instant is eleven bits after the start edge at 8N1; the record closes. -/
theorem test_break_event :
    after (.breakEvent 0) (sampling (.spaceHeld 50000 1280000) []) (fun t =>
      (t.chan 0).stats.breaks == 1 && (t.chan 0).sampler.decode == .waitMark 105000 &&
        (t.chan 0).store.queue.map Record.cause == [.gap, .gap, .brk]) = true := by
  decide +kernel

/-- Channel 0 receiving 41h with the open record `r`. -/
def receiving41 (r : OpenRecord) : State :=
  (sampling (.sampling 50000 1280000) edgesOf41).modChan 0 fun k =>
    { k with framer := { k.framer with state := .inRecord r } }

/-- R80, R96: the byte 41h joins the record, decided at 9.5 bits. -/
theorem test_character_event :
    after (.characterEvent 0) (receiving41 (opened [0x40] true 0)) (fun t =>
      (t.chan 0).framer.state == .inRecord (opened [0x40, 0x41] true 0) &&
        (t.chan 0).ctl.windowChars == 1 && t.time.ticks == 97504) = true := by
  decide +kernel

/-- R111: the 33rd byte takes a segment. -/
theorem test_character_takes_a_segment :
    after (.characterEvent 0) (receiving41 (opened (List.replicate 32 0) true 0)) (fun t =>
      (t.chan 0).store.held == 5 && t.pools.freeSegments == 507) = true := by
  decide +kernel

/-- Channel 0 receiving 41h with the framer in state `f`. -/
def receivingIn (f : FramerState) : State :=
  (sampling (.sampling 50000 1280000) edgesOf41).modChan 0 fun k =>
    { k with framer := { k.framer with state := f } }

/-- The character 41h is decided at its stop-bit sample, whatever the framer's state. -/
theorem decides41 (f : FramerState) :
    ((receivingIn f).chan 0).Decides 48000 50000 1280000 97500 97504 := by
  refine .inl ⟨rfl, ?_, rfl, (fun _ h => nomatch h), ?_, ?_⟩
  · show 97500 = lastSample 50000 1280000 10
    decide +kernel
  · show levelAt .low edgesOf41 (startSample 50000 1280000) = .low
    decide +kernel
  · show ∃ e ∈ edgesOf41, e.tick ≤ 97500
    decide +kernel

/-- A line held at space from tick 50,000 for ten bits: value 0 with a framing error. -/
def held0 (f : FramerState) : State :=
  (sampling (.spaceHeld 50000 1280000) [{ tick := 100000, level := .high }]).modChan 0 fun k =>
    { k with framer := { k.framer with state := f } }

/-- `s` with the framing fields of channel 0 as `f` makes them. -/
def framed (s : State) (f : FramingFields → FramingFields) : State :=
  s.modChan 0 fun k => { k with working := { k.working with framing := f k.working.framing } }

/-- DELIM mode with the delimiter 41h. -/
def byDelimiter (f : FramingFields) : FramingFields :=
  { f with mode := .delim, delimiters := [0x41#8] }

/-- Both ways of deciding, every framer state, both gap timers, every framing mode, both ends of the
descriptor pool. -/
theorem witness_CharacterActsByFramerState :
    (∀ f, ((receivingIn f).chan 0).Decides 48000 50000 1280000 97500 97504) ∧
      (∀ f, ((held0 f).chan 0).Decides 48000 50000 1280000 100000 48000) ∧
      (receivingIn .between).resetAsserted = false ∧ (receivingIn .between).time.ticks = 48000 ∧
      (held0 .between).time.ticks = 48000 ∧
      ((receivingIn .between).chan 0).framer.gapTimer = none ∧
      (({ num := 500001, den := 10 } : Instant).after 50000 = true ∧
        ({ num := 500000, den := 10 } : Instant).after 50000 = false ∧
        ({ num := 500000, den := 10 } : Instant).ceil + 4 ≤ 97504) ∧
      ((receivingIn .aligning).chan 0).framer.state = .aligning ∧
      ((receivingIn .between).chan 0).framer.state = .between ∧
      ((receiving41 (opened [0x41] true 0)).chan 0).framer.state =
        .inRecord (opened [0x41] true 0) ∧
      ((framed (receivingIn .aligning) byDelimiter).chan 0).working.framing.mode = .delim ∧
      (decodeCharacter resetLine edgesOf41 50000 1280000).value = 0x41#8 ∧
      (decodeCharacter resetLine [{ tick := 100000, level := .high }] 50000 1280000).value = 0#8 ∧
      ((framed (receivingIn .between) fun f => { f with startChar := some 0x41#8 }).chan
        0).working.framing.startChar = some 0x41#8 ∧
      0 < (receivingIn .between).pools.freeDescriptors ∧
      ({ receivingIn .between with pools := { resetPools with freeDescriptors := 0 } } :
        State).pools.freeDescriptors = 0 := by
  refine ⟨decides41,
    fun _ => .inr ⟨rfl, rfl, rfl, (by decide +kernel : 256 * 100000 < 256 * 50000 + (10 + 1) * 1280000)⟩, ?_⟩
  decide +kernel

/-- R95: in DELIM mode the delimiter closes the record, and is not stored unless it is kept. -/
theorem test_character_delimiter :
    after (.characterEvent 0) (framed (receiving41 (opened [0x40] true 0)) byDelimiter) (fun t =>
      (t.chan 0).framer.state == .between &&
        (t.chan 0).store.queue.map (fun r => (r.cause, r.bytes.length)) ==
          [(.gap, 2), (.gap, 1), (.delim, 1)]) = true := by
  decide +kernel

/-- R95: in LENGTH mode the character that reaches the record length closes the record. -/
theorem test_character_reaches_the_length :
    after (.characterEvent 0)
      (framed (receiving41 (opened [0x40] true 0)) fun f => { f with mode := .length, recordLength := 2 })
      (fun t =>
        (t.chan 0).store.queue.map (fun r => (r.cause, r.bytes.length)) ==
          [(.gap, 2), (.gap, 1), (.length, 2)]) = true := by
  decide +kernel

/-- R81: the edge to mark decides the character held: value 0 with a framing error. -/
theorem test_held_character :
    after (.characterEvent 0) (held0 (.inRecord (opened [0x40] true 0))) (fun t =>
      (t.chan 0).stats.framingErrors == 1 &&
        (t.chan 0).openRecord?.any fun r => r.bytes == [0x40#8, 0x00#8]) = true := by
  decide +kernel

/-- R94, R113: the record opens with a descriptor and its first byte in a segment. -/
theorem test_character_opens_a_record :
    after (.characterEvent 0) (receivingIn .between) (fun t =>
      ((t.chan 0).openRecord?.any fun r => r.bytes == [0x41#8] && r.startTime == 1041#32) &&
        t.pools.freeDescriptors == 250 && t.pools.freeSegments == 507) = true := by
  decide +kernel

/-- Channel 0 one character before the end of a window of 16. -/
def windowEnding (l : LockState) (errors : Nat) : State :=
  busyWith 0 fun k =>
    { k with ctl :=
      { k.ctl with lock := l, windowChars := 15, windowLength := 16, windowErrors := errors } }

/-- A character without errors. -/
def plain : Character :=
  { value := 0, parityOk := true, framingOk := true, startTime := 0
    endInstant := { num := 0, den := 256 } }

/-- `windowEnding` in ALIGN after as many attempts as the retry limit allows. -/
def lastAttempt : State :=
  (windowEnding .align 5).modCtl 0 fun d =>
    { d with
      retryCount := 3
      report := some (trial2.report { outcome := .fit, chosen := some verify } 900) }

/-- Errors at the threshold of 4 pass, 5 fail, in each decoding state. -/
theorem witness_QualityWindowIsJudged :
    ((windowEnding .locked 4).chan 0).ctl.windowLength ≤
        ((windowEnding .locked 4).chan 0).ctl.windowChars + 1 ∧
      4 + plain.errored.toNat ≤ ((windowEnding .locked 4).chan 0).config.errorThreshold ∧
      ((windowEnding .locked 4).chan 0).sampler.windowOffset.natAbs ≤
        10 * ((windowEnding .locked 4).chan 0).config.tolerance ∧
      ¬(5 + plain.errored.toNat ≤ ((windowEnding .locked 5).chan 0).config.errorThreshold) ∧
      ((windowEnding .align 5).chan 0).ctl.lock = .align ∧
      ((windowEnding .align 5).chan 0).ctl.retryCount + 1 ≤
        ((windowEnding .align 5).chan 0).config.retryLimit ∧
      ((windowEnding .align 5).chan 0).ctl.gatherTimer = none ∧
      (lastAttempt.chan 0).ctl.lock = .align ∧
      (lastAttempt.chan 0).config.retryLimit < (lastAttempt.chan 0).ctl.retryCount + 1 ∧
      ((lastAttempt.chan 0).ctl.report.map TrialReport.outcome) = some .fit ∧
      ((windowEnding .degraded 5).chan 0).ctl.lock = .degraded ∧
      (busy.chan 0).ctl.windowChars + 1 < (busy.chan 0).ctl.windowLength := by
  decide +kernel

/-- At 1,280,000 a bit: an edge on the last tick nearer to the first boundary than to the second, the
last stop-bit sample of ten bits, and a corrected period at each of its limits and beyond it. -/
theorem witness_QualityWindowIsJudged_arithmetic :
    (50000 < 57499 ∧ 57499 ≤ lastSample 50000 1280000 10 ∧
        2 * 1 * 1280000 ≤ 2 * (256 * 7499) + 1280000 ∧
        2 * (256 * 7499) + 1280000 < 2 * (1 + 1) * 1280000 ∧ 1 + 1 ≤ 10) ∧
      (2 * 9 * 1280000 ≤ 2 * (256 * 47499) + 1280000 ∧ ¬9 + 2 ≤ 10) ∧
      lastSample 50000 1280000 10 < 97501 ∧
      (0 < 9600 ∧ 9600 ≤ 3000000 ∧ (-1000 : Int) ≤ 0) ∧
      (∀ q ∈ [1119999, 1120000, 1440000, 1440001],
        1000 * (2 * (q : Int) - 1) ≤ 2 * (q * (1000 + 0)) ∧
          2 * (q * (1000 + 0)) < 1000 * (2 * (q : Int) + 1)) ∧
      8 * 9600 * 1119999 < 7 * (256 * 48000000) ∧ 7 * (256 * 48000000) ≤ 8 * 9600 * 1120000 ∧
      8 * 9600 * 1440000 ≤ 9 * (256 * 48000000) ∧ 9 * (256 * 48000000) < 8 * 9600 * 1440001 := by
  decide +kernel

/-- R37, R40: five errors over a threshold of 4 degrade the channel and mark the record suspect. -/
theorem test_window_fails :
    let t := (windowEnding .locked 5).countCharacter 0 plain
    (t.chan 0).ctl.lock = .degraded ∧ (t.chan 0).stats.degradedEntries = 1 ∧
      (t.chan 0).ctl.holdoverTimer = some (48000 + 24000000) ∧
      (t.chan 0).openRecord?.map OpenRecord.suspect = some true := by
  decide +kernel

/-! ### Expiries -/

/-- Channel `c` of `busy` with its gap timer running to `x`. -/
def gapRunning (c : Channel) (x : Instant) : State :=
  busyWith c fun k => { k with framer := { k.framer with gapTimer := some x } }

/-- The start edge in hand, tick 50,000, comes before 50,000.1 and not before 50,000. -/
theorem witness_GapExpiryActsByFramerState_waits :
    ((gapSampling (.sampling 50000 1280000) [] { num := 500001, den := 10 } none).chan 0).GapWaits
        { num := 500001, den := 10 } ∧
      ((gapSampling (.spaceHeld 50000 1280000) [] { num := 500001, den := 10 } none).chan
        0).GapWaits { num := 500001, den := 10 } ∧
      ((gapSampling (.hunt 0) [] { num := 500001, den := 10 } (some 50000)).chan 0).GapWaits
        { num := 500001, den := 10 } ∧
      ¬((gapSampling (.sampling 50000 1280000) [] { num := 500000, den := 10 } (some 50000)).chan
        0).GapWaits { num := 500000, den := 10 } := by
  refine ⟨.inl ⟨50000, 1280000, .inl rfl, by decide⟩, .inl ⟨50000, 1280000, .inr rfl, by decide⟩,
    .inr ⟨50000, rfl, by decide⟩, ?_⟩
  rintro (⟨t, per, h | h, ht⟩ | ⟨d, h, hd⟩)
  · cases h
    exact absurd ht (by decide)
  · exact nomatch h
  · cases h
    exact absurd hd (by decide)

theorem witness_GapExpiryActsByFramerState :
    let x : Instant := { num := 1000001, den := 10 }
    (gapRunning 0 x).resetAsserted = false ∧
      ((gapRunning 0 x).chan 0).framer.gapTimer = some x ∧
      ((gapRunning 0 x).chan 0).framer.state = .inRecord (opened [0x41] true 0) ∧
      ((gapRunning 4 x).chan 4).framer.state = .between ∧
      ((gapRunning 5 x).chan 5).framer.state = .aligning ∧
      ((gapRunning 5 x).chan 5).working.framing.mode ≠ .delim ∧
      0 < resetWorking.nominal ∧ resetWorking.framing.gapLimit ≠ 0 := by
  decide +kernel

/-- R92: an expiry held on a start edge before it waits; one that the start edge does not precede is
taken, the character still in hand. -/
theorem test_gap_expiry_and_the_start_edge :
    after (.gapExpiry 0)
        (gapSampling (.sampling 50000 1280000) [] { num := 500001, den := 10 } none) (fun t =>
        (t.chan 0).framer.gapTimer.isSome && t.time.ticks == 48000) = true ∧
      after (.gapExpiry 0)
        (gapSampling (.sampling 50000 1280000) [] { num := 500000, den := 10 } none) (fun t =>
        (t.chan 0).framer.state == .between && t.time.ticks == 50004 &&
          (t.chan 0).sampler.decode == .sampling 50000 1280000) = true := by
  decide +kernel

/-- R92, R99: closed with the expiry instant as its end time, 100,000.1 ticks being 2083 µs; taken the
glitch limit of 4 ticks after. -/
theorem test_gap_expiry :
    after (.gapExpiry 0) (gapRunning 0 { num := 1000001, den := 10 }) (fun t =>
      t.time.ticks == 100005 && (t.chan 0).framer.state == .between &&
        (t.chan 0).store.queue.map Record.endTime == [200#32, 200#32, 2083#32]) = true := by
  decide +kernel

/-- R35, R89: in ALIGN under GAP the boundary is found. -/
theorem test_gap_expiry_locks :
    after (.gapExpiry 5) (gapRunning 5 { num := 1000001, den := 10 }) (fun t =>
      (t.chan 5).ctl.lock == .locked && (t.chan 5).framer.state == .between &&
        t.notices.pending.any fun n => n.slot == .chan 5 .locked) = true := by
  decide +kernel

/-- Both expiries of channel 4, and one of a channel with a record open. -/
theorem witness_ExpiriesReleaseTheChannel :
    busy.resetAsserted = false ∧ (busy.chan 4).ctl.lock = .degraded ∧
      (busy.chan 4).ctl.holdoverTimer = some 2000000 ∧
      (busy.chan 4).ctl.dormantTimer = some 3000000 ∧ (busy.chan 4).openRecord? = none ∧
      ((busyWith 0 fun k => { k with ctl := { k.ctl with dormantTimer := some 60000 } }).chan
        0).ctl.dormantTimer = some 60000 ∧
      (busy.chan 0).ctl.lock = .locked ∧
      (busy.chan 0).openRecord? = some (opened [0x41] true 0) := by
  decide +kernel

/-- R43. -/
theorem test_holdover_expiry :
    after (.holdoverExpiry 4) busy (fun t =>
      (t.chan 4).ctl.lock == .quiet && (t.chan 4).ctl.dormantTimer == none &&
        (t.chan 4).stats.releases == 1 && (t.chan 4).working.confirmed &&
        t.notices.pending.any fun n => n.values == .released .holdover) = true := by
  decide +kernel

/-- R44: the open record closes with cause DORMANT. -/
theorem test_dormant_expiry :
    after (.dormantExpiry 0)
      (busyWith 0 fun k => { k with ctl := { k.ctl with dormantTimer := some 60000 } }) (fun t =>
        (t.chan 0).ctl.lock == .quiet && t.time.ticks == 60000 &&
          (t.chan 0).store.queue.map Record.cause == [.gap, .gap, .dormant]) = true := by
  decide +kernel

end Sys2Proof.Tests
end

section
/-! The device requests that read: what each answers, and how a wrong channel field is refused. -/

namespace Sys2Proof.Machine

/-- R174, check 3: a device request whose channel field is not FFh is refused. -/
theorem deviceRequest_badChannel {f : Frame} {n : Nat} (hb : f.body.length = n)
    (hc : f.channel ≠ 0xFF#8) (s : State) (go : State → State) :
    s.deviceRequest f n go = s.refuseRequest f .badChannel := by
  simp [State.deviceRequest, hb, hc]

/-- R174: a device request whose channel field is not FFh is answered BAD_CHANNEL, whatever its
owner would have done. -/
theorem takeRequest_device_badChannel {s : State} {f : Frame} {rest : List Frame} {i : Instr}
    {n : Nat} (h : s.CanTake f rest) (hi : requestOf f.kind = i) (hb : f.body.length = n)
    (hc : f.channel ≠ 0xFF#8) (go : Frame → State → State) :
    (s.takeRequest i fun f s => s.deviceRequest f n fun s => go f s) =
      .next (s.replied f rest [Result.badChannel.code]) := by
  rw [takeRequest_of_canTake h hi, deviceRequest_badChannel hb hc, refuseRequest_popInbox h]

/-- R175: a reading that is OK answers its fields under the result code 00h, and leaves the state as
it was. -/
theorem executePlain_answerOk_popInbox {s : State} {f : Frame} {rest : List Frame}
    (h : s.CanTake f rest) (fields : State → List Byte) :
    (s.popInbox.executePlain f fun s => s.answerOk (fields s)) =
      s.replied f rest (0x00#8 :: fields s.popInbox) :=
  respond_popInbox h _

@[simp] theorem popInbox_rates (s : State) : s.popInbox.rates = s.rates := rfl

/-- GET_RATES is carried out by its own handler. -/
theorem exec_getRates (s : State) : exec .getRates s = execGetRates s := rfl

/-- R5: the answer to a GET_RATES of the right shape. -/
theorem execGetRates_askedDevice {s : State} {f : Frame} {rest : List Frame}
    (h : s.AskedDevice 0x04#8 [] f rest) :
    execGetRates s = .next (s.replied f rest (0x00#8 :: encodeRates s.rates)) := by
  obtain ⟨htaken, hkind, hchannel, hbody⟩ := h
  have hrequest : requestOf f.kind = .getRates := by rw [hkind]; rfl
  rw [execGetRates, takeRequest_device htaken hrequest (by simp [hbody]) hchannel,
    executePlain_answerOk_popInbox htaken, popInbox_rates]

/-- R5, R174: the refusal of a GET_RATES whose channel field is not FFh. -/
theorem execGetRates_badChannel {s : State} {f : Frame} {rest : List Frame}
    (h : s.CanTake f rest) (hkind : f.kind = 0x04#8) (hbody : f.body = [])
    (hchannel : f.channel ≠ 0xFF#8) :
    execGetRates s = .next (s.replied f rest [Result.badChannel.code]) := by
  have hrequest : requestOf f.kind = .getRates := by rw [hkind]; rfl
  rw [execGetRates, takeRequest_device_badChannel h hrequest (by simp [hbody]) hchannel]

/-- Settles O22: the two shapes of channel field, each by what the handler answers to it. -/
theorem getRatesAnswersTheTable : Obligations.GetRatesAnswersTheTable := by
  unfold Obligations.GetRatesAnswersTheTable
  constructor
  · intro s f rest h
    rw [exec_getRates, execGetRates_askedDevice h, encodeRates]
  · intro s f rest h hkind hbody hchannel
    rw [exec_getRates, execGetRates_badChannel h hkind hbody hchannel, Result.code]

end Sys2Proof.Machine
end

section
/-! FETCH: how a body's fields are read back, and what the command does with the lease it names. -/

namespace Sys2Proof.Machine

/-! ### Little-endian fields of a body (R179) -/

@[simp] theorem length_le (n v : Nat) : (le n v).length = n := by
  induction n generalizing v with
  | zero => rfl
  | succ n ih => simp [le, ih]

/-- A number that fits `n` bytes is the one that its `n` bytes spell. -/
theorem leValue_le {n v : Nat} (h : v < 256 ^ n) : leValue (le n v) = v := by
  induction n generalizing v with
  | zero => simp only [pow_zero, Nat.lt_one_iff] at h; simp [le, leValue, h]
  | succ n ih =>
    have hhigh : v / 256 < 256 ^ n := Nat.div_lt_of_lt_mul (by rwa [← pow_succ'])
    simp only [le, leValue, ih hhigh, BitVec.toNat_ofNat]
    omega

/-- The field at the front of a body. -/
theorem field_le_append {n v : Nat} (h : v < 256 ^ n) (b : List Byte) :
    field (le n v ++ b) 0 n = v := by
  simp [field, fieldBytes, List.take_left' (length_le n v), leValue_le h]

/-- A field that stands behind the first `m` bytes of a body. -/
theorem field_skip {m offset : Nat} (h : m ≤ offset) (v n : Nat) (b : List Byte) :
    field (le m v ++ b) offset n = field b (offset - m) n := by
  rw [field, fieldBytes, List.drop_append, List.drop_eq_nil_of_le (by simpa using h), length_le,
    List.nil_append, field, fieldBytes]

/-- The four fields of a FETCH's body. -/
theorem fetch_fields {id index offset length : Nat} (hid : id < 65536) (hindex : index < 256)
    (hoffset : offset < 65536) (hlength : length < 65536) :
    let b := le 2 id ++ le 1 index ++ le 2 offset ++ le 2 length
    field b 0 2 = id ∧ field b 2 1 = index ∧ field b 3 2 = offset ∧ field b 5 2 = length := by
  have hlast : field (le 2 length) 0 2 = length := by
    simpa using field_le_append (n := 2) hlength []
  simp only [List.append_assoc]
  refine ⟨field_le_append hid _, ?_, ?_, ?_⟩
  · rw [field_skip (by decide)]
    exact field_le_append hindex _
  · rw [field_skip (by decide), field_skip (by decide)]
    exact field_le_append hoffset _
  · rw [field_skip (by decide), field_skip (by decide), field_skip (by decide)]
    exact hlast

/-! ### What a plain request answers -/

/-- R175: a plain request that is refused answers the result code alone, and leaves the state as it
was. -/
theorem executePlain_answer_popInbox {s : State} {f : Frame} {rest : List Frame}
    (h : s.CanTake f rest) {run : State → Reply} {r : Result}
    (hrun : run s.popInbox = s.popInbox.answer r) :
    s.popInbox.executePlain f run = s.replied f rest [r.code] := by
  simp only [State.executePlain, hrun]
  exact respond_popInbox h _

/-- R175: a plain request that is OK and writes channel `c`'s store alone answers its fields. -/
theorem executePlain_modStore_popInbox {s : State} {f : Frame} {rest : List Frame}
    (h : s.CanTake f rest) {run : State → Reply} {c : Channel} {g : ChannelStore → ChannelStore}
    {fields : List Byte} (hrun : run s.popInbox = (s.popInbox.modStore c g).answerOk fields) :
    s.popInbox.executePlain f run = (s.replied f rest (0x00#8 :: fields)).modStore c g := by
  simp only [State.executePlain, hrun, ← respond_popInbox h]
  rfl

@[simp] theorem popInbox_chan (s : State) (c : Channel) : s.popInbox.chan c = s.chan c := rfl
@[simp] theorem popInbox_time (s : State) : s.popInbox.time = s.time := rfl

/-! ### The lease that a FETCH names (R130 to R133) -/

/-- R131: the id of the channel's lease names it. -/
theorem nameLease_current {st : ChannelStore} {l : Lease} (h : st.lease = some l) :
    st.nameLease l.id = .current l := by
  simp [ChannelStore.nameLease, h]

/-- R132: the lengths and offsets that a record allows. -/
theorem fetchValid_iff (r : Record) (offset length : Nat) :
    fetchValid r offset length = true ↔
      1 ≤ length ∧ length ≤ 1024 ∧
        (offset < r.bytes.length ∨ (offset = 0 ∧ r.bytes.length = 0)) := by
  simp only [fetchValid, Bool.and_eq_true, Bool.or_eq_true, decide_eq_true_eq, beq_iff_eq,
    and_assoc, and_comm (a := r.bytes.length = 0)]

/-- R133: as many bytes come back as are asked for, or as the record holds from the offset on. -/
theorem length_fetchedBytes (r : Record) (offset length : Nat) :
    (fetchedBytes r offset length).length = min length (r.bytes.length - offset) := by
  simp [fetchedBytes]

/-- R130: renewing a lease rewrites its expiry alone. -/
theorem renewLease_of_lease {s : State} {c : Channel} {l : Lease}
    (h : (s.chan c).store.lease = some l) :
    s.renewLease c =
      s.modStore c fun st =>
        { st with
          lease :=
            some
              { l with expiry := s.time.ticks + (s.chan c).config.leaseTimeoutMs * 48000 } } := by
  simp [State.renewLease, State.expiryInMs, State.modStore, State.modChan, h]

/-- R132: a FETCH on the lease is refused when no record stands at the index, or the record there
does not allow the offset and the length. -/
theorem fetchBytes_refused {s : State} {c : Channel} {l : Lease} {index offset length : Nat}
    (h : (s.chan c).store.lease = some l)
    (hbad : ∀ r, l.records[index]? = some r → ¬fetchValid r offset length = true) :
    s.fetchBytes c l.id index offset length = s.answer .badValue := by
  unfold State.fetchBytes
  rw [nameLease_current h]
  cases hr : l.records[index]? with
  | none => simp only [hr]
  | some r => simp only [hr, if_neg (hbad r hr)]

/-- R133: a FETCH that the record allows answers its bytes and renews the lease. -/
theorem fetchBytes_granted {s : State} {c : Channel} {l : Lease} {r : Record}
    {index offset length : Nat} (h : (s.chan c).store.lease = some l)
    (hr : l.records[index]? = some r) (hv : fetchValid r offset length = true) :
    s.fetchBytes c l.id index offset length =
      (s.renewLease c).answerOk
        (le 2 (fetchedBytes r offset length).length ++ fetchedBytes r offset length) := by
  unfold State.fetchBytes
  rw [nameLease_current h]
  simp only [hr, if_pos hv]

/-! ### The command -/

/-- FETCH is carried out by its own handler. -/
theorem exec_fetch (s : State) : exec .fetch s = execFetch s := rfl

/-- R174: a FETCH of the right shape reads its four fields and is carried out on its channel. -/
theorem exec_fetch_asked {s : State} {c : Channel} {id index offset length : Nat} {f : Frame}
    {rest : List Frame} (hid : id < 65536) (hindex : index < 256) (hoffset : offset < 65536)
    (hlength : length < 65536)
    (h : s.Asked c 0x0E#8 (le 2 id ++ le 1 index ++ le 2 offset ++ le 2 length) f rest) :
    exec .fetch s =
      .next (s.popInbox.executePlain f fun s => s.fetchBytes c id index offset length) := by
  obtain ⟨htaken, hkind, hchannel, hbody⟩ := h
  have hrequest : requestOf f.kind = .fetch := by rw [hkind]; rfl
  obtain ⟨h0, h2, h3, h5⟩ := fetch_fields hid hindex hoffset hlength
  rw [exec_fetch, execFetch, takeRequest_channel htaken hrequest (by simp [hbody]) hchannel, hbody,
    h0, h2, h3, h5]

/-- Settles O35: the command by its fields, then a refusal for each value that the record at the
index does not allow, and the renewed lease for those it does. -/
theorem fetchReturnsTheBytes : Obligations.FetchReturnsTheBytes := by
  unfold Obligations.FetchReturnsTheBytes
  intro s c l index offset length f rest hid hindex hoffset hlength hlease hasked
  rw [exec_fetch_asked hid hindex hoffset hlength hasked]
  have refused (hbad : ∀ r, l.records[index]? = some r → ¬fetchValid r offset length = true) :
      Host.Outcome.next
          (s.popInbox.executePlain f fun s => s.fetchBytes c l.id index offset length) =
        (.next (s.replied f rest [0x04#8]) : Host.Outcome State Fault Refusal) :=
    congrArg _ (executePlain_answer_popInbox (r := .badValue) hasked.taken
      (fetchBytes_refused hlease hbad))
  refine ⟨fun hrange => refused fun r hr hv => ?_, fun r hr => ⟨fun hrange => ?_, ?_⟩⟩
  · have hin : index < l.records.length := (List.getElem?_eq_some_iff.1 hr).1
    rw [fetchValid_iff] at hv
    omega
  · refine refused fun r' hr' hv => ?_
    obtain rfl : r = r' := Option.some.inj (hr.symm.trans hr')
    rw [fetchValid_iff] at hv
    omega
  · intro hlow hhigh hwithin
    have hv := (fetchValid_iff r offset length).2 ⟨hlow, hhigh, hwithin⟩
    have granted := fetchBytes_granted (s := s.popInbox) hlease hr hv
    rw [renewLease_of_lease (s := s.popInbox) hlease, length_fetchedBytes, fetchedBytes] at granted
    exact congrArg Host.Outcome.next (executePlain_modStore_popInbox hasked.taken granted)

end Sys2Proof.Machine
end

section
/-! STATS: how a row of equally wide numbers is read back, and what the command does with each clear
byte. -/

namespace Sys2Proof.Machine

/-! ### A row of numbers in a body (R179) -/

/-- `n` bytes spell the number they were made from, reduced to what `n` bytes can hold. -/
theorem leValue_le_mod (n v : Nat) : leValue (le n v) = v % 256 ^ n := by
  induction n generalizing v with
  | zero => simp [le, leValue, Nat.mod_one]
  | succ n ih => simp [le, leValue, ih, pow_succ', Nat.mod_mul]

/-- The number at place `i` of a row stands `i` widths from its front. -/
theorem field_flatMap_le (w : Nat) {row : List Nat} {i v : Nat} (h : row[i]? = some v) :
    field (row.flatMap (le w)) (w * i) w = v % 256 ^ w := by
  induction row generalizing i with
  | nil => simp at h
  | cons x row ih =>
    rw [List.flatMap_cons]
    cases i with
    | zero =>
      obtain rfl : x = v := by simpa using h
      simp [field, fieldBytes, List.take_left' (length_le w x), leValue_le_mod]
    | succ i =>
      have hi : row[i]? = some v := by simpa using h
      rw [field_skip (Nat.le_mul_of_pos_right w i.succ_pos), Nat.mul_succ, Nat.add_sub_cancel,
        ih hi]

/-- R162: the response's fields are the statistics in order, four bytes each. -/
theorem Statistics.encode_eq (x : Statistics) : x.encode = x.inOrder.flatMap (le 4) := rfl

/-- R162: the response carries sixty bytes of statistics. -/
theorem Statistics.length_encode (x : Statistics) : x.encode.length = 60 := by
  simp [Statistics.encode_eq, Statistics.inOrder]

/-- R162: where each statistic stands in the response, low byte first. -/
theorem Statistics.field_encode {x : Statistics} {i n : Nat} (h : x.inOrder[i]? = some n) :
    field x.encode (4 * i) 4 = n % 4294967296 := by
  rw [Statistics.encode_eq]
  exact field_flatMap_le 4 h

/-! ### What a mutating request answers (R176) -/

/-- R176: a retransmission is answered with the cached body, whatever it would have done. -/
theorem executeMutating_retransmitted_popInbox {s : State} {f : Frame} {rest : List Frame}
    {e : CacheEntry} (h : s.CanTake f rest) (hn : (s.link.cache.map CacheEntry.tag).Nodup)
    (he : e ∈ s.link.cache) (htag : e.tag = f.tag) (hkind : e.kind = f.kind)
    (hchannel : e.channel = f.channel) (hcheck : e.check = f.check) (run : State → Reply) :
    s.popInbox.executeMutating f run = s.replied f rest e.body := by
  have hhit : cacheHit s.popInbox.link.cache f = some e :=
    cacheHit_eq hn he htag hkind hchannel hcheck
  simp only [State.executeMutating, hhit, respond_popInbox h]

/-- R176: a new mutating request that is OK and writes channel `c` alone answers its fields and
enters them in the cache. -/
theorem executeMutating_modChan_popInbox {s : State} {f : Frame} {rest : List Frame}
    (h : s.CanTake f rest) (hfresh : s.Fresh f) {run : State → Reply} {c : Channel}
    {g : Chan → Chan} {fields : List Byte}
    (hrun : run s.popInbox = (s.popInbox.modChan c g).answerOk fields) :
    s.popInbox.executeMutating f run =
      (s.repliedCached f rest (0x00#8 :: fields)).modChan c g := by
  have hfresh' : s.popInbox.Fresh f := hfresh
  have hinbox : s.popInbox.link.inbox = rest := by simp [h.head]
  rw [executeMutating_fresh hfresh', executeCached_eq, hrun]
  subst hinbox
  rfl

/-! ### The clear byte (R163) -/

/-- A body of one byte is that byte's value. -/
theorem field_singleton (b : Byte) : field [b] 0 1 = b.toNat := by
  simp [field, fieldBytes, leValue]

/-- Only 0 and 1 are codes of a flag. -/
theorem flagOfCode_eq_none {v : Nat} (h0 : v ≠ 0) (h1 : v ≠ 1) : flagOfCode v = none := by
  match v with
  | 0 => exact absurd rfl h0
  | 1 => exact absurd rfl h1
  | _ + 2 => rfl

/-- With clear 0 the statistics are read. -/
theorem statsRequest_read {f : Frame} (h : f.body = [0#8]) (s : State) (c : Channel) :
    s.statsRequest f c = s.executePlain f fun s => s.answerOk (s.chan c).stats.encode := by
  rw [State.statsRequest, h]
  rfl

/-- With clear 1 they are read by a mutating request. -/
theorem statsRequest_clear {f : Frame} (h : f.body = [1#8]) (s : State) (c : Channel) :
    s.statsRequest f c = s.executeMutating f fun s => s.readStats c true := by
  rw [State.statsRequest, h]
  rfl

/-- Any other clear byte is refused. -/
theorem statsRequest_refused {f : Frame} {clear : Byte} (h : f.body = [clear]) (h0 : clear ≠ 0#8)
    (h1 : clear ≠ 1#8) (s : State) (c : Channel) :
    s.statsRequest f c = s.executePlain f fun s => s.answer .badValue := by
  have hnone : flagOfCode clear.toNat = none :=
    flagOfCode_eq_none (fun hv => h0 (BitVec.eq_of_toNat_eq hv))
      fun hv => h1 (BitVec.eq_of_toNat_eq hv)
  rw [State.statsRequest, h, field_singleton, hnone]

/-- R163: the fields are read before the statistics are set to 0. -/
theorem readStats_clear (s : State) (c : Channel) :
    s.readStats c true =
      (s.modChan c fun k => { k with stats := resetStatistics }).answerOk
        (s.chan c).stats.encode := rfl

/-! ### The command -/

/-- STATS is carried out by its own handler. -/
theorem exec_stats (s : State) : exec .stats s = execStats s := rfl

/-- R174: a STATS of the right shape is carried out on its channel. -/
theorem exec_stats_asked {s : State} {c : Channel} {clear : Byte} {f : Frame} {rest : List Frame}
    (h : s.Asked c 0x0B#8 [clear] f rest) :
    exec .stats s = .next (s.popInbox.statsRequest f c) := by
  obtain ⟨htaken, hkind, hchannel, hbody⟩ := h
  have hrequest : requestOf f.kind = .stats := by rw [hkind]; rfl
  rw [exec_stats, execStats, takeRequest_channel htaken hrequest (by simp [hbody]) hchannel]

/-- Settles O25: the command by its clear byte, refused, read, read and cleared, or answered from
the cache; then the place of each statistic in the response. -/
theorem statsReadsAndClears : Obligations.StatsReadsAndClears := by
  unfold Obligations.StatsReadsAndClears
  refine ⟨fun s c clear f rest hasked => ?_,
    fun x => ⟨x.length_encode, fun _ _ h => Statistics.field_encode h⟩⟩
  have hbody := hasked.body
  rw [exec_stats_asked hasked]
  refine ⟨fun h0 h1 => ?refused, ?read, ?clears, ?retransmitted⟩
  case refused =>
    rw [statsRequest_refused hbody h0 h1,
      executePlain_answer_popInbox (r := .badValue) hasked.taken rfl, Result.code]
  case read =>
    rintro rfl
    rw [statsRequest_read hbody, executePlain_answerOk_popInbox hasked.taken, popInbox_chan]
  case clears =>
    rintro rfl hfresh
    rw [statsRequest_clear hbody,
      executeMutating_modChan_popInbox hasked.taken hfresh (readStats_clear s.popInbox c),
      popInbox_chan]
  case retransmitted =>
    rintro e he rfl hn htag hkind hchannel hcheck
    rw [statsRequest_clear hbody,
      executeMutating_retransmitted_popInbox hasked.taken hn he htag hkind hchannel hcheck]

end Sys2Proof.Machine
end

section
/-! The operations of a record in the closed forms of the statements: how a record closes, how a
character is stored, and how it is recorded. -/

namespace Sys2Proof.Machine

/-! ### Writes of one channel in a row -/

/-- Two states that agree on every channel and every other field are one. -/
theorem State.eq_of_chan {s t : State} (hc : ∀ d, s.chan d = t.chan d)
    (hr : s = { t with chans := s.chans }) : s = t :=
  State.ext_chan hc (by rw [hr])

/-- A channel of a device put together from its fields. -/
@[simp] theorem State.chan_mk (resetAsserted : Bool) (resetCause : ResetCause)
    (lineIn : Vector Level 8) (time : TimeBase) (rates : Vector Nat 16) (chans : Vector Chan 8)
    (trial : TrialUnit) (pools : Pools) (leaseCounter : Nat) (notices : NoticeUnit)
    (link : HostLink) (pending : List Instr) (d : Channel) :
    (State.mk resetAsserted resetCause lineIn time rates chans trial pools leaseCounter notices link
      pending).chan d = chans[d.val] := rfl

/-- The channels of a device are read by `State.chan`. -/
@[simp] theorem State.getElem_chans (s : State) (d : Channel) : s.chans[d.val] = s.chan d := rfl

/-- A write of a channel is known by what it makes of the channel. -/
theorem State.modChan_congr {s : State} {c : Channel} {f g : Chan → Chan}
    (h : f (s.chan c) = g (s.chan c)) : s.modChan c f = s.modChan c g := by
  simp only [State.modChan, h]

/-- A post and a write of one channel do not see each other. -/
theorem postChan_modChan (s : State) (c d : Channel) (kind : ChannelKind) (v : NoticeValues)
    (f : Chan → Chan) :
    (s.postChan c kind v).modChan d f = (s.modChan d f).postChan c kind v := rfl

/-! ### Closure (R99, R100, R104) -/

/-- R17, R104: a framing update that is pending is applied; with none nothing happens. -/
theorem Chan.updated_eq (k : Chan) :
    k.updated = if k.pendingUpdate then k.applyBetween else k := by
  unfold Chan.updated
  split
  · simp only [Chan.applyBetween, Chan.applyUpdate, WorkingProfile.written, epochAfter,
      Framer.reframed, true_and, Option.isSome_iff_ne_none, Option.isNone_iff_eq_none,
      Bool.and_eq_true]
  · rfl

/-- R99: what closing makes of a channel with the open record `r`. -/
theorem Chan.closing_of_open {k : Chan} {r : OpenRecord} (h : k.openRecord? = some r) (c : Channel)
    (cause : Cause) (t : BitVec 32) :
    k.closing c cause t =
      { k with
        framer := { k.framer with state := .between }
        store := k.store.closing c r cause t
        stats := k.stats.closing r }.updated := by
  simp only [Chan.closing, h]

/-- R99: what closing makes of a device whose channel `c` has the open record `r`. -/
theorem State.closing_of_open {s : State} {c : Channel} {r : OpenRecord}
    (h : (s.chan c).openRecord? = some r) (cause : Cause) (t : BitVec 32) :
    s.closing c cause t =
      { s.modChan c fun k => k.closing c cause t with
        pools := s.pools.closing r
        notices :=
          if r.bytes = [] ∧ r.lost = 0 then s.notices
          else if r.hasDescriptor then (s.postChan c .ready .ready).notices
          else (s.postChan c .dropped (.dropped 1)).notices } := by
  simp only [State.closing, h]

theorem State.closing_of_none {s : State} {c : Channel} (h : (s.chan c).openRecord? = none)
    (cause : Cause) (t : BitVec 32) : s.closing c cause t = s := by
  simp only [State.closing, h]

/-- R100: an empty record is one with nothing stored and nothing lost. -/
theorem OpenRecord.isEmpty_iff (r : OpenRecord) : r.isEmpty = true ↔ r.bytes = [] ∧ r.lost = 0 := by
  simp [OpenRecord.isEmpty]

/-- R100: what an empty record gives back. -/
theorem freeEmpty_eq {r : OpenRecord} (h : r.bytes = [] ∧ r.lost = 0) (s : State) :
    s.freeEmpty r = { s with pools := s.pools.closing r } := by
  cases hd : r.hasDescriptor <;> simp [State.freeEmpty, Pools.closing, h, hd]

/-- R99: closing a record is what the statements say of it. -/
theorem closeRecord_eq (s : State) (c : Channel) (cause : Cause) (t : BitVec 32) :
    s.closeRecord c cause t = s.closing c cause t := by
  rcases hr : (s.chan c).openRecord? with _ | r
  · rw [closeRecord_none hr, State.closing_of_none hr]
  have hk (g : Chan → Chan)
      (hg : g (s.chan c) =
        { s.chan c with
          framer := { (s.chan c).framer with state := .between }
          store := (s.chan c).store.closing c r cause t
          stats := (s.chan c).stats.closing r }) :
      (s.modChan c fun k => if (g k).pendingUpdate then (g k).applyBetween else g k) =
        s.modChan c fun k => k.closing c cause t := by
    apply State.modChan_congr
    rw [Chan.closing_of_open hr, Chan.updated_eq, hg]
  rw [State.closing_of_open hr]
  by_cases he : r.bytes = [] ∧ r.lost = 0
  · rw [closeRecord_empty hr (r.isEmpty_iff.2 he), freeEmpty_eq he, applyAtClosure_eq, if_pos he]
    have hg := hk (fun k => { k with framer := { k.framer with state := .between } })
      (by simp [ChannelStore.closing, Statistics.closing, he])
    rw [← State.modChan_modChan s c _ fun k => if k.pendingUpdate then k.applyBetween else k] at hg
    exact congrArg (fun u : State => { u with pools := s.pools.closing r }) hg
  · have hf : r.isEmpty = false := by rwa [← Bool.not_eq_true, r.isEmpty_iff]
    have hp : s.pools.closing r = s.pools := if_neg fun h => he ⟨h.1, h.2.1⟩
    rw [closeRecord_handOver hr hf, applyAtClosure_eq, if_neg he, hp]
    cases hd : r.hasDescriptor
    · rw [handOver_dropped hd, postChan_modChan, State.modFramer_eq, State.modChan_modChan,
        State.modChan_modChan]
      rw [hk]
      · rfl
      · simp [ChannelStore.closing, Statistics.closing, he, hd, count32, satAdd]
    · rw [handOver_queued hd, postChan_modChan, State.modFramer_eq, State.modChan_modChan,
        State.modChan_modChan]
      rw [hk]
      · rfl
      · simp [ChannelStore.closing, Statistics.closing, he, hd, count32, satAdd]

/-! ### The open record (R88, R96, R97) -/

theorem Chan.openRecord?_eq_some {k : Chan} {r : OpenRecord} :
    k.openRecord? = some r ↔ k.framer.state = .inRecord r := by
  cases hs : k.framer.state <;> simp [Chan.openRecord?, FramerState.record, hs]

theorem Chan.openRecord?_eq_none {k : Chan} :
    k.openRecord? = none ↔ ∀ r, k.framer.state ≠ .inRecord r := by
  cases hs : k.framer.state <;> simp [Chan.openRecord?, FramerState.record, hs]

/-- A channel put in OPEN stands in OPEN, the rest of it as it was. -/
@[simp] theorem State.chan_opened (s : State) (c : Channel) (r : OpenRecord) :
    (s.opened c r).chan c =
      { s.chan c with framer := { (s.chan c).framer with state := .inRecord r } } :=
  State.chan_modFramer_same ..

theorem State.openRecord?_opened (s : State) (c : Channel) (r : OpenRecord) :
    ((s.opened c r).chan c).openRecord? = some r := by
  simp [Chan.openRecord?_eq_some]

/-- The later of two progresses stands. -/
@[simp] theorem State.opened_opened (s : State) (c : Channel) (r r' : OpenRecord) :
    (s.opened c r).opened c r' = s.opened c r' := by
  simp only [State.opened, State.modFramer, State.modChan_modChan]

/-- A change of the open record puts the channel in OPEN with the changed progress. -/
theorem modRecord_eq_opened {s : State} {c : Channel} {r : OpenRecord}
    (h : (s.chan c).openRecord? = some r) (f : OpenRecord → OpenRecord) :
    s.modRecord c f = s.opened c (f r) := by
  rw [Chan.openRecord?_eq_some] at h
  unfold State.modRecord State.opened State.modFramer
  exact State.modChan_congr (by simp only [h, FramerState.onRecord])

/-- R97: the error summary is what the statements say of it. -/
theorem OpenRecord.account_eq (r : OpenRecord) (x : Character) : r.account x = r.accounted x := by
  cases hp : x.parityOk <;> cases hf : x.framingOk <;> cases he : r.firstError <;>
    simp [OpenRecord.account, OpenRecord.accounted, Character.errored, count8, satAdd, hp, hf, he]

/-! ### One character stored (R96, R108, R111, R112, R120) -/

/-- R96: storing a character is what the statements say of it. -/
theorem storeCharacter_eq {s : State} {c : Channel} {r : OpenRecord}
    (h : (s.chan c).openRecord? = some r) (v : Byte) :
    s.storeCharacter c r v = s.storing c r v := by
  unfold State.storeCharacter State.storing
  by_cases hd : r.hasDescriptor = false ∨ r.truncated = true
  · rw [if_pos (by simpa using hd), modRecord_eq_opened h]
    simp only [hd, if_true]
    rfl
  by_cases hn : r.bytes.length % 32 = 0
  swap
  · rw [if_neg (by simpa using hd), modRecord_eq_opened h]
    simp only [hd, hn, needsSegment, if_false, beq_iff_eq, ne_eq, not_false_eq_true, if_true]
    rfl
  rw [if_neg (by simpa using hd)]
  simp only [hd, hn, needsSegment, if_false, beq_self_eq_true, ne_eq, not_true_eq_false, if_true]
  by_cases hcap : (s.chan c).config.segmentCap ≤ (s.chan c).store.held
  · simp only [askSegment_cap hcap, hcap, if_true]
    rw [if_neg (by simp)]
    refine modRecord_eq_opened (r := r) ?_ _
    exact h
  by_cases hfree : s.pools.freeSegments = 0
  · simp only [askSegment_pool (Nat.not_le.1 hcap) hfree, hcap, hfree, if_true, if_false]
    rw [if_neg (by simp)]
    refine modRecord_eq_opened (r := r) ?_ _
    exact h
  simp only [askSegment_granted (Nat.not_le.1 hcap) (Nat.pos_of_ne_zero hfree), hcap, hfree,
    if_true, if_false]
  set s1 : State :=
    { s with pools := { s.pools with freeSegments := s.pools.freeSegments - 1 } }.modStore c
      fun st => { st with held := st.held + 1 } with hs1
  have hchan : s1.chan c =
      { s.chan c with store := { (s.chan c).store with held := (s.chan c).store.held + 1 } } :=
    State.chan_modStore_same ..
  have hopen : (s1.chan c).openRecord? = some r := by rw [hchan]; exact h
  generalize hfill : (if (s.chan c).config.highMark ≤ (s.chan c).store.held + 1 then Fill.high
    else if (s.chan c).store.held + 1 ≤ (s.chan c).config.lowMark then .low
    else (s.chan c).store.fill) = fill
  have hafter : fillAfter (s1.chan c).store.held (s1.chan c).config.highMark
      (s1.chan c).config.lowMark (s1.chan c).store.fill = fill := by rw [hchan]; exact hfill
  by_cases hsame : fill = (s.chan c).store.fill
  · rw [evaluateFill_same (by rw [hafter, hchan]; exact hsame), modRecord_eq_opened hopen]
    refine State.eq_of_chan (fun d => ?_) (by simp [hsame]; rfl)
    by_cases hdc : d = c
    · subst hdc
      simp [hchan, hsame, OpenRecord.append]
    · simp [hs1, State.opened, State.chan_modFramer_other hdc, State.chan_modStore_other hdc]
  · rw [evaluateFill_crossing hafter (by rw [hchan]; exact hsame),
      modRecord_eq_opened (r := r)
        (by rw [State.chan_postChan, State.chan_modStore_same]; exact hopen)]
    refine State.eq_of_chan (fun d => ?_) (by simp [hsame]; rfl)
    by_cases hdc : d = c
    · subst hdc
      simp [hchan, hsame, OpenRecord.append]
    · simp [hs1, State.opened, State.chan_modFramer_other hdc, State.chan_modStore_other hdc]

/-! ### One character recorded (R95, R97) -/

/-- What is stored of a progress does not hang on the progress before. -/
theorem storing_opened (s : State) (c : Channel) (r a : OpenRecord) (v : Byte) :
    (s.opened c r).storing c a v = s.storing c a v := by
  unfold State.storing
  simp only [State.opened_opened, State.chan_opened]
  rfl

/-- R88, R96: a character stored or lost is one more character of the record. -/
theorem characterCount_storing (s : State) (c : Channel) (r : OpenRecord) (v : Byte) :
    ((s.storing c r v).chan c).characterCount = r.bytes.length + r.lost + 1 := by
  have count {k : Chan} {r' : OpenRecord} (h : k.framer.state = .inRecord r') :
      k.characterCount = r'.bytes.length + r'.lost := by
    simp [Chan.characterCount, Chan.openRecord?, FramerState.record, h]
  unfold State.storing
  dsimp only
  split_ifs <;> rw [count (by simp; rfl)] <;> simp <;> omega

/-- R94, R95: storing a character leaves the profile alone. -/
theorem working_storing (s : State) (c : Channel) (r : OpenRecord) (v : Byte) :
    ((s.storing c r v).chan c).working = (s.chan c).working := by
  unfold State.storing
  dsimp only
  split_ifs <;> simp

/-- R95: recording a character is what the statements say of it. -/
theorem recordCharacter_eq {s : State} {c : Channel} {r : OpenRecord}
    (h : (s.chan c).openRecord? = some r) (x : Character) (opening : Bool) :
    s.recordCharacter c x opening = s.recording c r x opening := by
  have hstore : (s.opened c (r.accounted x)).storeOpen c x.value =
      s.storing c (r.accounted x) x.value := by
    unfold State.storeOpen
    rw [State.openRecord?_opened]
    exact (storeCharacter_eq (State.openRecord?_opened ..) _).trans (storing_opened ..)
  unfold State.recordCharacter State.recording State.lengthTests
  simp only [modRecord_eq_opened h, r.account_eq, hstore, working_storing,
    characterCount_storing, closeRecord_eq]
  rfl

end Sys2Proof.Machine
end

section
/-! What the work on one channel keeps. A piece of work on channel `c` (an edge, a character, an
expiry) touches that channel, the pools and the notice table alone, and keeps the laws of each: one
relation says so, and each operation is shown to be in it. -/

namespace Sys2Proof.Machine

/-! ### One channel -/

/-- The law of a lock state but for the mode: what R18, R42, R44, R78 and R91 ask of the blocks. -/
structure Chan.Blocks (k : Chan) : Prop where
  framer : k.framer.state.follows k.ctl.lock = true
  gapTimer : k.framer.gapTimer.isSome = true → k.framer.state ≠ .idle
  sampler : k.sampler.decode = .stopped ↔ k.ctl.lock.decoding = false
  confirmed : k.ctl.lock.decoding = true → k.working.confirmed = true
  gatherTimer : k.ctl.gatherTimer.isSome = true → k.ctl.lock = .gather
  holdoverTimer : k.ctl.holdoverTimer.isSome = true ↔ k.ctl.lock = .degraded
  dormantTimer : k.ctl.dormantTimer.isSome = true → k.ctl.lock.decoding = true

theorem Chan.lockLaw_iff {k : Chan} :
    k.LockLaw ↔ (k.ctl.lock = .off ↔ k.config.mode = .off) ∧ k.Blocks :=
  ⟨fun h => ⟨h.mode, h.framer, h.gapTimer, h.sampler, h.confirmed, h.gatherTimer, h.holdoverTimer,
      h.dormantTimer⟩,
    fun ⟨hm, h⟩ => ⟨hm, h.framer, h.gapTimer, h.sampler, h.confirmed, h.gatherTimer,
      h.holdoverTimer, h.dormantTimer⟩⟩

/-- The lock states that the trial queue, the service and the mode hang on. -/
def LockState.watched : LockState → Bool
  | .off | .queued | .trial => true
  | .quiet | .gather | .align | .locked | .degraded | .failed => false

/-- One channel's part of the pool law (R110, R113). -/
structure Chan.Pooled (k : Chan) : Prop where
  held : k.store.held = k.segmentsHeld
  dropped : k.droppedIsEmpty

/-- R126: a channel's lease, if it has one, is legal. -/
def Chan.LeaseLegal (k : Chan) : Prop := ∀ l, k.store.lease = some l → l.Law

/-- What work on a channel keeps of it: its configuration, its lease, fill state and profiles
legal, its blocks as the lock state requires, its place off, queued or in trial, and its bit clock
in range. -/
structure Chan.Keeps (k k' : Chan) : Prop where
  config : k'.config = k.config
  lease : k.LeaseLegal → k'.LeaseLegal
  fill : k.FillLaw → k'.FillLaw
  blocks : k.Blocks → k'.Blocks
  watched : k.Blocks → ∀ l : LockState, l.watched = true → (k'.ctl.lock = l ↔ k.ctl.lock = l)
  profile : k.ProfileLaw → k'.ProfileLaw
  period : k.Blocks → k.ProfileLaw → k.PeriodLaw → k'.PeriodLaw

theorem Chan.Keeps.refl (k : Chan) : k.Keeps k :=
  ⟨rfl, id, id, id, fun _ _ _ => .rfl, id, fun _ _ h => h⟩

theorem Chan.Keeps.trans {k k' k'' : Chan} (h : k.Keeps k') (h' : k'.Keeps k'') : k.Keeps k'' :=
  ⟨h'.config.trans h.config, h'.lease ∘ h.lease, h'.fill ∘ h.fill, h'.blocks ∘ h.blocks,
    fun hb l hl => (h'.watched (h.blocks hb) l hl).trans (h.watched hb l hl),
    h'.profile ∘ h.profile,
    fun hb hp hc => h'.period (h.blocks hb) (h.profile hp) (h.period hb hp hc)⟩

/-- The record that is open, as far as the pools see it: its descriptor and its bytes. -/
def Chan.openHolding (k : Chan) : Option (Bool × List Byte) :=
  k.openRecord?.map fun r => (r.hasDescriptor, r.bytes)

theorem Chan.openSegments_eq (k : Chan) :
    k.framer.openSegments = (k.openHolding.map fun x => segmentsOf x.2.length).getD 0 := by
  unfold Framer.openSegments Chan.openHolding Chan.openRecord?
  cases k.framer.state.record <;> rfl

theorem Chan.openDescriptors_eq (k : Chan) :
    k.framer.openDescriptors = (k.openHolding.map fun x => x.1.toNat).getD 0 := by
  unfold Framer.openDescriptors Chan.openHolding Chan.openRecord?
  rcases k.framer.state.record with _ | r
  · rfl
  · cases hd : r.hasDescriptor <;> simp [hd]

theorem Chan.droppedIsEmpty_iff (k : Chan) :
    k.droppedIsEmpty ↔ ∀ bytes, k.openHolding = some (false, bytes) → bytes = [] := by
  unfold Chan.droppedIsEmpty Chan.openHolding
  rcases k.openRecord? with _ | r
  · simp
  · simp

/-- A channel with the same store and the same holding of its open record holds the same. -/
theorem Chan.Pooled.congr {k k' : Chan} (hs : k'.store = k.store)
    (ho : k'.openHolding = k.openHolding) (h : k.Pooled) :
    k'.Pooled ∧ k'.descriptorsHeld = k.descriptorsHeld := by
  refine ⟨⟨?_, ?_⟩, ?_⟩
  · simpa only [Chan.segmentsHeld, Chan.openSegments_eq, hs, ho] using h.held
  · rw [Chan.droppedIsEmpty_iff, ho, ← Chan.droppedIsEmpty_iff]
    exact h.dropped
  · simp only [Chan.descriptorsHeld, Chan.openDescriptors_eq, hs, ho]

/-! ### The device around it -/

/-- `t` comes of `s` by work on channel `c`: nothing but the channel, the pools and the notices has
changed, the laws of the channel and of the notices are kept, and what the channel has come to hold
has left the pools. -/
structure State.WorkOn (c : Channel) (s t : State) : Prop where
  rest : t = { s with chans := t.chans, pools := t.pools, notices := t.notices }
  others : t.OthersAs s c
  notices : s.NoticeLaw → t.NoticeLaw
  chan : (s.chan c).Keeps (t.chan c)
  pooled : (s.chan c).Blocks → (s.chan c).Pooled →
    (t.chan c).Pooled ∧
      t.pools.freeSegments + (t.chan c).store.held =
        s.pools.freeSegments + (s.chan c).store.held ∧
      t.pools.freeDescriptors + (t.chan c).descriptorsHeld =
        s.pools.freeDescriptors + (s.chan c).descriptorsHeld

/-- The law of the notices speaks of the notices alone. -/
theorem State.NoticeLaw.congr {s t : State} (h : s.NoticeLaw) (hn : t.notices = s.notices) :
    t.NoticeLaw := by
  constructor <;> rw [hn]
  exacts [h.once, h.counts, h.kinds, h.credit]

theorem State.WorkOn.refl (c : Channel) (s : State) : s.WorkOn c s :=
  ⟨rfl, fun _ _ => rfl, id, .refl _, fun _ h => ⟨h, rfl, rfl⟩⟩

theorem State.WorkOn.trans {c : Channel} {s t u : State} (h : State.WorkOn c s t)
    (h' : State.WorkOn c t u) : State.WorkOn c s u := by
  refine ⟨?_, fun d hd => (h'.others d hd).trans (h.others d hd), h'.notices ∘ h.notices,
    h.chan.trans h'.chan, fun hb hp => ?_⟩
  · rw [h'.rest, h.rest]
  · obtain ⟨hp1, hs1, hd1⟩ := h.pooled hb hp
    obtain ⟨hp2, hs2, hd2⟩ := h'.pooled (h.chan.blocks hb) hp1
    exact ⟨hp2, hs2.trans hs1, hd2.trans hd1⟩

/-- A write of the channel that keeps its laws, its store and what its open record holds. -/
theorem State.workOn_modChan {s : State} {c : Channel} {f : Chan → Chan}
    (hk : (s.chan c).Keeps (f (s.chan c))) (hs : (f (s.chan c)).store = (s.chan c).store)
    (ho : (s.chan c).Blocks → (f (s.chan c)).openHolding = (s.chan c).openHolding) :
    s.WorkOn c (s.modChan c f) := by
  refine ⟨rfl, fun d hd => State.chan_modChan_other hd s f, fun h => h.congr rfl, ?_,
    fun hb hp => ?_⟩
  · rwa [State.chan_modChan_same]
  · rw [State.chan_modChan_same, hs]
    obtain ⟨hp', hd⟩ := hp.congr hs (ho hb)
    exact ⟨hp', rfl, by rw [hd, State.modChan_pools]⟩

/-! ### Posts (R142, R143, R147) -/

/-- R144, R145: merged values are of the kind of the new ones. -/
theorem carries_merge (slot : Slot) (old new : NoticeValues) :
    slot.carries (old.merge new) = slot.carries new := by
  unfold NoticeValues.merge
  split
  case h_5 => rfl
  all_goals rcases slot with ⟨c, kind⟩ | kind <;> cases kind <;> rfl

theorem mem_postTo {slot : Slot} {v : NoticeValues} {us : Nat} {ns : List Notice} {m : Notice}
    (h : m ∈ postTo slot v us ns) :
    m ∈ ns ∨ (∃ n ∈ ns, n.slot = slot ∧ m = n.merged v) ∨
      m = { slot := slot, postedAt := us, count := 1, values := v } := by
  induction ns with
  | nil => simp_all [postTo]
  | cons n rest ih =>
    unfold postTo at h
    split at h
    · rcases List.mem_cons.1 h with rfl | hm
      · exact .inr (.inl ⟨n, by simp, ‹_›, rfl⟩)
      · exact .inl (by simp [hm])
    · rcases List.mem_cons.1 h with rfl | hm
      · exact .inl (by simp)
      · rcases ih hm with hm | ⟨n', hn', hs, he⟩ | he
        · exact .inl (by simp [hm])
        · exact .inr (.inl ⟨n', by simp [hn'], hs, he⟩)
        · exact .inr (.inr he)

/-- R143: a post of a slot's own kind keeps the law of the notices. -/
theorem State.NoticeLaw.post {s : State} (h : s.NoticeLaw) {slot : Slot} {v : NoticeValues}
    (hv : slot.carries v = true) : (s.post slot v).NoticeLaw := by
  have each {p : Notice → Prop} (hold : ∀ n ∈ s.notices.pending, p n)
      (hmerged : ∀ n ∈ s.notices.pending, n.slot = slot → p (n.merged v))
      (hnew : ∀ us, p { slot := slot, postedAt := us, count := 1, values := v }) :
      ∀ m ∈ (s.post slot v).notices.pending, p m := by
    intro m hm
    rw [State.post_pending_eq] at hm
    rcases mem_postTo hm with hm | ⟨n, hn, hs, rfl⟩ | rfl
    · exact hold m hm
    · exact hmerged n hn hs
    · exact hnew _
  refine ⟨?_, each h.counts (fun n hn _ => ?_) (by simp), each h.kinds (fun n hn hs => ?_) ?_,
    h.credit⟩
  · rw [State.post_pending_eq, postTo_slots]
    split
    · exact h.once
    · rw [← List.concat_eq_append]
      exact h.once.concat ‹_›
  · have := h.counts n hn
    simp only [Notice.merged, count8, satAdd]
    omega
  · rw [Notice.merged, carries_merge, hs]
    exact hv
  · exact fun _ => hv

theorem State.workOn_post (c : Channel) (s : State) {slot : Slot} {v : NoticeValues}
    (hv : slot.carries v = true) : s.WorkOn c (s.post slot v) :=
  ⟨rfl, fun _ _ => rfl, fun h => h.post hv, .refl _, fun _ h => ⟨h, rfl, rfl⟩⟩

theorem State.workOn_postChan (c d : Channel) (s : State) {kind : ChannelKind} {v : NoticeValues}
    (hv : (Slot.chan d kind).carries v = true) : s.WorkOn c (s.postChan d kind v) :=
  s.workOn_post c hv

end Sys2Proof.Machine
end

section
/-! The operations of records, characters, gaps and windows: each is work on its channel. -/

namespace Sys2Proof.Machine

/-! ### What the laws of a channel read -/

theorem Chan.FillLaw.congr {k k' : Chan} (h : k.FillLaw) (hc : k'.config = k.config)
    (hs : k'.store = k.store) : k'.FillLaw := by
  obtain ⟨h1, h2, h3, h4⟩ := h
  constructor <;> simp only [Chan.holdDue, hc, hs] <;> assumption

theorem Chan.ProfileLaw.congr {k k' : Chan} (h : k.ProfileLaw) (hg : k'.given = k.given)
    (hw : k'.working = k.working) : k'.ProfileLaw := by
  obtain ⟨h1, h2, h3, h4⟩ := h
  constructor <;> simp only [hg, hw] <;> assumption

/-- A change that leaves configuration, profiles and store alone keeps a channel's laws when it
keeps its blocks, its watched states and its bit clock. -/
theorem Chan.keeps_of_same {k k' : Chan} (hc : k'.config = k.config) (hg : k'.given = k.given)
    (hw : k'.working = k.working) (hs : k'.store = k.store) (hb : k.Blocks → k'.Blocks)
    (hl : k.Blocks → ∀ l : LockState, l.watched = true → (k'.ctl.lock = l ↔ k.ctl.lock = l))
    (hp : k.Blocks → k.ProfileLaw → k.PeriodLaw → k'.PeriodLaw) : k.Keeps k' :=
  ⟨hc, fun h => by unfold Chan.LeaseLegal; rwa [hs], fun h => h.congr hc hs, hb, hl,
    fun h => h.congr hg hw, hp⟩

/-- The bit clock of a channel whose profile, sampler and lock state stand. -/
theorem Chan.PeriodLaw.congr {k k' : Chan} (h : k.PeriodLaw) (hw : k'.working = k.working)
    (hd : k'.ctl.lock.decoding = true → k.ctl.lock.decoding = true)
    (ht : k'.sampler.trackedPeriod = k.sampler.trackedPeriod)
    (hs : ∀ t per, k'.sampler.decode = .sampling t per ∨ k'.sampler.decode = .spaceHeld t per →
      k.sampler.decode = .sampling t per ∨ k.sampler.decode = .spaceHeld t per) :
    k'.PeriodLaw :=
  ⟨by rw [hw]; exact h.rate, fun hx => by rw [hw, ht]; exact h.tracked (hd hx),
    fun t per hx => by rw [hw]; exact h.character t per (hs t per hx)⟩

/-! ### Closure -/

section
variable (k : Chan)

@[simp] theorem Chan.updated_config : k.updated.config = k.config := by
  unfold Chan.updated; split <;> rfl
@[simp] theorem Chan.updated_given : k.updated.given = k.given := by
  unfold Chan.updated; split <;> rfl
@[simp] theorem Chan.updated_store : k.updated.store = k.store := by
  unfold Chan.updated; split <;> rfl
@[simp] theorem Chan.updated_stats : k.updated.stats = k.stats := by
  unfold Chan.updated; split <;> rfl
@[simp] theorem Chan.updated_ctl : k.updated.ctl = k.ctl := by
  unfold Chan.updated; split <;> rfl
@[simp] theorem Chan.updated_sampler : k.updated.sampler = k.sampler := by
  unfold Chan.updated; split <;> rfl
@[simp] theorem Chan.updated_framerState : k.updated.framer.state = k.framer.state := by
  unfold Chan.updated; split <;> rfl
@[simp] theorem Chan.updated_line : k.updated.working.line = k.working.line := by
  unfold Chan.updated; split <;> rfl
@[simp] theorem Chan.updated_nominal : k.updated.working.nominal = k.working.nominal := by
  unfold Chan.updated; split <;> rfl
@[simp] theorem Chan.updated_confirmed : k.updated.working.confirmed = k.working.confirmed := by
  unfold Chan.updated; split <;> rfl

theorem Chan.updated_framing :
    k.updated.working.framing =
      if k.pendingUpdate then k.given.framing else k.working.framing := by
  unfold Chan.updated; split <;> rfl

end

section
variable {k : Chan} {r : OpenRecord}

/-- R99: a closed record leaves the framer in BETWEEN. -/
theorem Chan.closing_framerState (h : k.openRecord? = some r) (c : Channel) (cause : Cause)
    (t : BitVec 32) : (k.closing c cause t).framer.state = .between := by
  simp [Chan.closing_of_open h]

@[simp] theorem Chan.closing_ctl (c : Channel) (cause : Cause) (t : BitVec 32) :
    (k.closing c cause t).ctl = k.ctl := by
  unfold Chan.closing; split <;> simp
@[simp] theorem Chan.closing_sampler (c : Channel) (cause : Cause) (t : BitVec 32) :
    (k.closing c cause t).sampler = k.sampler := by
  unfold Chan.closing; split <;> simp
@[simp] theorem Chan.closing_config (c : Channel) (cause : Cause) (t : BitVec 32) :
    (k.closing c cause t).config = k.config := by
  unfold Chan.closing; split <;> simp
@[simp] theorem Chan.closing_given (c : Channel) (cause : Cause) (t : BitVec 32) :
    (k.closing c cause t).given = k.given := by
  unfold Chan.closing; split <;> simp

theorem ChannelStore.closing_fields (st : ChannelStore) (c : Channel) (cause : Cause)
    (t : BitVec 32) :
    (st.closing c r cause t).lease = st.lease ∧ (st.closing c r cause t).held = st.held ∧
      (st.closing c r cause t).fill = st.fill ∧ (st.closing c r cause t).hold = st.hold := by
  unfold ChannelStore.closing; split_ifs <;> simp

/-- R99: closing a record keeps the laws of its channel. -/
theorem Chan.keeps_closing (h : k.openRecord? = some r) (c : Channel) (cause : Cause)
    (t : BitVec 32) : k.Keeps (k.closing c cause t) := by
  obtain ⟨hlease, hheld, hfill, hhold⟩ := k.store.closing_fields (r := r) c cause t
  have hs := Chan.openRecord?_eq_some.1 h
  rw [Chan.closing_of_open h]
  refine ⟨by simp, fun h => by simpa [Chan.LeaseLegal, hlease] using h, fun hf => ?_, fun hb => ?_,
    by simp, fun hp => ?_, fun _ _ hp => ?_⟩
  · obtain ⟨h1, h2, h3, h4⟩ := hf
    constructor <;> simp_all [Chan.holdDue]
  · obtain ⟨h1, h2, h3, h4, h5, h6, h7⟩ := hb
    constructor <;> simp_all [FramerState.follows]
  · obtain ⟨h1, h2, h3, h4⟩ := hp
    refine ⟨by simpa, by simpa, by simpa, ?_⟩
    rw [Chan.updated_framing]
    split
    · simpa [GivenProfile.valid] using And.right (by simpa [GivenProfile.valid] using h1)
    · exact h4
  · obtain ⟨h1, h2, h3⟩ := hp
    constructor <;> simpa

/-- R100, R108, R109: what a record held when it closed stands in the queue, or is back in the
pools. -/
theorem Chan.pooled_closing (h : k.openRecord? = some r) (hp : k.Pooled) (c : Channel)
    (cause : Cause) (t : BitVec 32) (p : Pools) :
    (k.closing c cause t).Pooled ∧ (k.closing c cause t).store.held = k.store.held ∧
      (p.closing r).freeSegments = p.freeSegments ∧
      (p.closing r).freeDescriptors + (k.closing c cause t).descriptorsHeld =
        p.freeDescriptors + k.descriptorsHeld := by
  have hs := Chan.openRecord?_eq_some.1 h
  obtain ⟨hheld, hdropped⟩ := hp
  have hdropped := hdropped r h
  rw [Chan.closing_of_open h]
  simp only [Chan.segmentsHeld, Framer.openSegments, hs, FramerState.record] at hheld
  have hnone {k' : Chan} (hk' : k'.framer.state = .between) : k'.droppedIsEmpty := by
    simp [Chan.droppedIsEmpty, Chan.openRecord?, hk', FramerState.record]
  refine ⟨⟨?_, hnone (by simp)⟩, ?_, ?_, ?_⟩
  · simp only [Chan.segmentsHeld, Framer.openSegments, Chan.updated_store, Chan.updated_framerState,
      FramerState.record, ChannelStore.closing]
    split_ifs with he hd
    · simpa [he.1, segmentsOf] using hheld
    · simp only [segmentSum, List.map_append, List.sum_append, ChannelStore.leased] at hheld ⊢
      simp only [OpenRecord.closed, Record.segments, List.map_cons, List.map_nil, List.sum_cons,
        List.sum_nil]
      omega
    · simpa [hdropped (by simpa using hd), segmentsOf, ChannelStore.leased] using hheld
  · simp [(k.store.closing_fields (r := r) c cause t).2.1]
  · unfold Pools.closing; split_ifs <;> rfl
  · simp only [Chan.descriptorsHeld, Framer.openDescriptors, Chan.updated_store, hs,
      Chan.updated_framerState, FramerState.record, ChannelStore.closing, Pools.closing]
    split_ifs <;> simp_all [ChannelStore.leased] <;> omega

end

/-- R99: closing the open record is work on its channel. -/
theorem State.workOn_closing (s : State) (c : Channel) (cause : Cause) (t : BitVec 32) :
    s.WorkOn c (s.closing c cause t) := by
  rcases hr : (s.chan c).openRecord? with _ | r
  · rw [State.closing_of_none hr]
    exact .refl c s
  rw [State.closing_of_open hr]
  refine ⟨rfl, fun d hd => by simpa using State.chan_modChan_other hd s _,
    fun hn => ?_, ?_, fun hb hp => ?_⟩
  · split_ifs
    · exact hn.congr rfl
    · exact (hn.post (slot := .chan c .ready) (v := .ready) rfl).congr rfl
    · exact (hn.post (slot := .chan c .dropped) (v := .dropped 1) rfl).congr rfl
  · have := Chan.keeps_closing hr c cause t
    simpa using this
  · have := Chan.pooled_closing hr hp c cause t s.pools
    simp [this]

theorem State.workOn_closeRecord (s : State) (c : Channel) (cause : Cause) (t : BitVec 32) :
    s.WorkOn c (s.closeRecord c cause t) := by
  rw [closeRecord_eq]
  exact s.workOn_closing c cause t

/-! ### Boundaries and gaps (R89 to R92) -/

/-- R89: finding the boundary, as one write of the channel and a post. -/
theorem boundaryFound_eq (s : State) (c : Channel) :
    s.boundaryFound c =
      (s.modChan c fun k =>
        { k with
          framer := { k.framer with state := .between, preamble := 0 }
          ctl := { k.ctl with lock := .locked, retryCount := 0 } }).postChan c .locked
        ((s.chan c).lockedValues false) := by
  unfold State.boundaryFound State.enterLocked
  simp only [State.modFramer_eq, State.modCtl_eq, State.modChan_modChan, State.chan_modChan_same]
  rfl

/-- R35, R89: the boundary found in ALIGNING. -/
theorem State.workOn_boundaryFound {s : State} {c : Channel}
    (h : (s.chan c).framer.state = .aligning) : s.WorkOn c (s.boundaryFound c) := by
  rw [boundaryFound_eq]
  have align (hb : (s.chan c).Blocks) : (s.chan c).ctl.lock = .align := by
    simpa [FramerState.follows, h] using hb.framer
  refine .trans (State.workOn_modChan (Chan.keeps_of_same rfl rfl rfl rfl (fun hb => ?_)
    (fun hb l hl => ?_) fun hb _ hp => ?_) rfl fun _ => ?_) (workOn_postChan c c _ rfl)
  · have hl := align hb
    obtain ⟨h1, h2, h3, h4, h5, h6, h7⟩ := hb
    constructor <;> simp_all [FramerState.follows, LockState.decoding]
  · rw [align hb]
    constructor <;> (rintro rfl; simp [LockState.watched] at hl)
  · refine hp.congr rfl (fun _ => ?_) rfl (fun _ _ => id)
    rw [align hb]
    rfl
  · simp [Chan.openHolding, Chan.openRecord?, h, FramerState.record]

/-- R91, R92: a write of the gap timer alone keeps a channel's laws, if the framer is not in IDLE or
the timer stops. -/
theorem Chan.keeps_gapTimer {k : Chan} {g : Option Instant}
    (h : k.framer.state ≠ .idle ∨ g = none) :
    k.Keeps { k with framer := { k.framer with gapTimer := g } } :=
  Chan.keeps_of_same rfl rfl rfl rfl
    (fun hb => { hb with gapTimer := fun hg => h.resolve_right (by rintro rfl; simp at hg) })
    (fun _ _ _ => .rfl) fun _ _ hp => hp.congr rfl id rfl fun _ _ => id

theorem State.workOn_gapTimer {s : State} {c : Channel} {g : Framer → Option Instant}
    (h : (s.chan c).framer.state ≠ .idle ∨ g (s.chan c).framer = none) :
    s.WorkOn c (s.modFramer c fun f => { f with gapTimer := g f }) :=
  State.workOn_modChan (Chan.keeps_gapTimer h) rfl fun _ => rfl

/-- R92: an expiry taken. -/
theorem State.workOn_takeGap (s : State) (c : Channel) (x : Instant) :
    s.WorkOn c (s.takeGap c x) := by
  unfold State.takeGap
  have hstop := State.workOn_gapTimer (s := s) (c := c) (g := fun _ => none) (.inr rfl)
  dsimp only
  split
  · exact hstop
  · exact hstop
  · split
    · exact hstop.trans (State.workOn_boundaryFound ‹_›)
    · exact hstop.trans (State.workOn_boundaryFound ‹_›)
    · exact hstop
  · exact hstop.trans (State.workOn_closeRecord ..)

theorem State.workOn_takeHeldGap (s : State) (c : Channel) : s.WorkOn c (s.takeHeldGap c) := by
  unfold State.takeHeldGap
  split
  · split
    · exact s.workOn_takeGap c _
    · exact .refl c s
  · exact .refl c s

theorem State.workOn_restartGap {s : State} {c : Channel} (h : (s.chan c).framer.state ≠ .idle)
    (x : Instant) : s.WorkOn c (s.modChan c fun k => k.restartGap x) :=
  State.workOn_modChan (Chan.keeps_gapTimer (.inl h)) rfl fun _ => rfl

/-! ### The characters of a record (R93 to R97) -/

/-- A change of the open record that leaves its descriptor and its bytes. -/
theorem State.workOn_modRecord (s : State) (c : Channel) {f : OpenRecord → OpenRecord}
    (hd : ∀ r, (f r).hasDescriptor = r.hasDescriptor) (hb : ∀ r, (f r).bytes = r.bytes) :
    s.WorkOn c (s.modRecord c f) := by
  have hstate (k : Chan) : (k.framer.state.onRecord f).follows k.ctl.lock =
      k.framer.state.follows k.ctl.lock := by cases k.framer.state <;> rfl
  unfold State.modRecord State.modFramer
  refine State.workOn_modChan (Chan.keeps_of_same rfl rfl rfl rfl (fun hk => ?_)
    (fun _ _ _ => .rfl) fun _ _ hp => hp.congr rfl id rfl fun _ _ => id) rfl fun _ => ?_
  · refine { hk with framer := (hstate _).trans hk.framer, gapTimer := fun hg => ?_ }
    have := hk.gapTimer hg
    cases hs : (s.chan c).framer.state <;> simp_all [FramerState.onRecord]
  · unfold Chan.openHolding Chan.openRecord?
    dsimp only
    cases hs : (s.chan c).framer.state <;> simp [FramerState.onRecord, FramerState.record, hd, hb]

/-- R110, R111: a byte that starts a new run of 32 needs one more segment, any other none. -/
theorem segmentsOf_succ (n : Nat) :
    segmentsOf (n + 1) = if n % 32 = 0 then segmentsOf n + 1 else segmentsOf n := by
  unfold segmentsOf; split <;> omega

/-- A record open in OPEN replaced by another keeps a channel's laws. -/
theorem Chan.keeps_inRecord {k : Chan} {r : OpenRecord} (h : k.framer.state = .inRecord r)
    (r' : OpenRecord) : k.Keeps { k with framer := { k.framer with state := .inRecord r' } } :=
  Chan.keeps_of_same rfl rfl rfl rfl
    (fun hb => { hb with
      framer := by simpa [FramerState.follows, h] using hb.framer
      gapTimer := fun _ => by simp })
    (fun _ _ _ => .rfl) fun _ _ hp => hp.congr rfl id rfl fun _ _ => id

/-- R110, R113: what a channel with record `r` open holds. -/
theorem Chan.pooled_inRecord {k : Chan} {r : OpenRecord} (h : k.framer.state = .inRecord r) :
    (k.Pooled ↔
      k.store.held =
          segmentsOf r.bytes.length + segmentSum k.store.queue + segmentSum k.store.leased ∧
        (r.hasDescriptor = false → r.bytes = [])) ∧
      k.descriptorsHeld =
        r.hasDescriptor.toNat + k.store.queue.length + k.store.leased.length := by
  have ho : k.openRecord? = some r := Chan.openRecord?_eq_some.2 h
  constructor
  · constructor
    · rintro ⟨hheld, hdropped⟩
      refine ⟨?_, fun hd => hdropped r ho hd⟩
      simpa [Chan.segmentsHeld, Framer.openSegments, h, FramerState.record] using hheld
    · rintro ⟨hheld, hdropped⟩
      refine ⟨?_, fun r' hr' => ?_⟩
      · simpa [Chan.segmentsHeld, Framer.openSegments, h, FramerState.record] using hheld
      · rw [ho] at hr'
        cases hr'
        exact hdropped
  · cases hd : r.hasDescriptor <;>
      simp [Chan.descriptorsHeld, Framer.openDescriptors, h, FramerState.record, hd]

/-- R109, R110: one byte more in the open record takes one segment more when it starts a new run of
32, and no descriptor. -/
theorem Chan.pooled_grown {k k' : Chan} {r : OpenRecord} (h : k.framer.state = .inRecord r)
    (hd : r.hasDescriptor = true) (hp : k.Pooled) (v : Byte)
    (hs : k'.framer.state = .inRecord { r with bytes := r.bytes ++ [v] })
    (hq : k'.store.queue = k.store.queue) (hl : k'.store.leased = k.store.leased)
    (hheld : k'.store.held =
      k.store.held + if r.bytes.length % 32 = 0 then 1 else 0) :
    k'.Pooled ∧ k'.descriptorsHeld = k.descriptorsHeld := by
  obtain ⟨hbefore, hdesc⟩ := Chan.pooled_inRecord h
  obtain ⟨hafter, hdesc'⟩ := Chan.pooled_inRecord hs
  obtain ⟨hp, -⟩ := hbefore.1 hp
  rw [hafter, hdesc, hdesc', hq, hl, hheld, hp]
  simp only [List.length_append, List.length_singleton, segmentsOf_succ, hd, Bool.true_eq_false,
    false_imp_iff, and_true]
  split_ifs <;> omega

/-- R120, R122: after an evaluation of a legal configuration, fill state and HOLD obey their law. -/
theorem fillAfter_law {cfg : ChannelConfig} (hv : cfg.valid = true) (held : Nat) (old : Fill) :
    (fillAfter held cfg.highMark cfg.lowMark old = .high → cfg.lowMark < held) ∧
      (fillAfter held cfg.highMark cfg.lowMark old = .low → held < cfg.highMark) := by
  have hmarks : cfg.lowMark < cfg.highMark := by simp [ChannelConfig.valid] at hv; omega
  unfold fillAfter
  split_ifs <;> simp_all
  omega

/-- A change of the refusal counters and a post. -/
theorem State.workOn_pools {c : Channel} {t : State} {p : Pools} {n : NoticeUnit}
    (hseg : p.freeSegments = t.pools.freeSegments)
    (hdesc : p.freeDescriptors = t.pools.freeDescriptors)
    (hn : t.NoticeLaw → { t with pools := p, notices := n }.NoticeLaw) :
    t.WorkOn c { t with pools := p, notices := n } :=
  ⟨rfl, fun _ _ => rfl, hn, .refl _, fun _ h => ⟨h, by simp [hseg], by simp [hdesc]⟩⟩

/-- R96, R111, R112, R120: a character stored, or counted lost. -/
theorem State.workOn_storing {s : State} {c : Channel} {r : OpenRecord}
    (h : (s.chan c).openRecord? = some r) (v : Byte) : s.WorkOn c (s.storing c r v) := by
  have hs := Chan.openRecord?_eq_some.1 h
  have hlost : s.WorkOn c (s.opened c { r with truncated := true, lost := r.lost + 1 }) := by
    have := s.workOn_modRecord c (f := OpenRecord.lose) (fun _ => rfl) fun _ => rfl
    rwa [modRecord_eq_opened h] at this
  unfold State.storing
  dsimp only
  generalize hfill : (if (s.chan c).config.highMark ≤ (s.chan c).store.held + 1 then Fill.high
    else if (s.chan c).store.held + 1 ≤ (s.chan c).config.lowMark then .low
    else (s.chan c).store.fill) = fill
  split
  · exact hlost
  rename_i hd
  split
  · rename_i hn
    refine ⟨rfl, fun d hd => State.chan_modFramer_other hd s _, fun h => h.congr rfl, ?_,
      fun _ hp => ?_⟩
    · rw [State.chan_opened]
      exact Chan.keeps_inRecord hs _
    · have hgrown := Chan.pooled_grown hs (by simpa using fun h => hd (.inl h)) hp v
        (k' := (s.opened c { r with bytes := r.bytes ++ [v] }).chan c) (by simp) (by simp)
        (by simp [ChannelStore.leased]) (by simp [hn])
      exact ⟨hgrown.1, by simp [State.opened], congrArg _ hgrown.2⟩
  rename_i hn
  split
  · exact hlost.trans (State.workOn_pools rfl rfl fun hn => hn.congr rfl)
  split
  · exact hlost.trans (State.workOn_pools rfl rfl
      fun hn => (hn.post (slot := .device .pool) (v := .pool 1) rfl).congr rfl)
  · refine ⟨rfl, fun d hd => ?_, fun hn => ?_, ?_, fun _ hp => ?_⟩
    · simp [State.opened, State.chan_modStore_other hd, State.chan_modFramer_other hd]
    · split_ifs
      · exact hn.congr rfl
      · exact (hn.post (slot := .chan c .fill) (v := .fill 1) rfl).congr rfl
    · simp only [State.chan_mk, State.getElem_chans, State.chan_modStore_same, State.chan_opened]
      have hkeeps := Chan.keeps_inRecord hs { r with bytes := r.bytes ++ [v] }
      refine ⟨rfl, id, fun hf => ?_, fun hb => ?_, hkeeps.watched, ?_, ?_⟩
      · have hlaw := fillAfter_law hf.config ((s.chan c).store.held + 1) (s.chan c).store.fill
        rw [fillAfter, hfill] at hlaw
        refine ⟨hf.config, hlaw.1, hlaw.2, ?_⟩
        have := hf.hold
        simp only [Chan.holdDue] at this ⊢
        split_ifs with hsame
        · rw [this, hsame]
        · rfl
      · exact { hkeeps.blocks hb with }
      · exact fun hp => (hkeeps.profile hp).congr rfl rfl
      · exact fun hb hp hc => (hkeeps.period hb hp hc).congr rfl id rfl fun _ _ => id
    · have hn : r.bytes.length % 32 = 0 := by omega
      simp only [State.chan_mk, State.getElem_chans, State.chan_modStore_same, State.chan_opened]
      obtain ⟨hpooled, hdesc⟩ := Chan.pooled_grown hs (by simpa using fun h => hd (.inl h)) hp v
        (k' := { s.chan c with
          framer := { (s.chan c).framer with
            state := .inRecord { r with bytes := r.bytes ++ [v] } }
          store := { (s.chan c).store with
            held := (s.chan c).store.held + 1
            fill := fill
            hold := if fill = (s.chan c).store.fill then (s.chan c).store.hold
              else (s.chan c).config.holdEnable && decide ((s.chan c).config.mode = .listen) &&
                decide (fill = .high) } })
        rfl rfl rfl (by simp [hn])
      exact ⟨hpooled, by omega, congrArg _ hdesc⟩

end Sys2Proof.Machine
end

section
/-! The characters, breaks, windows and releases of a decoding channel: each is work on its
channel. -/

namespace Sys2Proof.Machine

/-! ### Records (R93 to R98) -/

/-- R95: a character of the open record. -/
theorem State.workOn_recordCharacter {s : State} {c : Channel} {r : OpenRecord}
    (h : (s.chan c).openRecord? = some r) (x : Character) (opening : Bool) :
    s.WorkOn c (s.recordCharacter c x opening) := by
  have haccount : s.WorkOn c (s.modRecord c fun r => r.account x) :=
    s.workOn_modRecord c (fun _ => rfl) fun _ => rfl
  have hopen : ((s.modRecord c fun r => r.account x).chan c).openRecord? = some (r.account x) := by
    rw [modRecord_eq_opened h, State.openRecord?_opened]
  have hstore (v : Byte) : s.WorkOn c ((s.modRecord c fun r => r.account x).storeOpen c v) := by
    rw [State.storeOpen, hopen]
    refine haccount.trans ?_
    dsimp only
    rw [storeCharacter_eq hopen]
    exact State.workOn_storing hopen v
  unfold State.recordCharacter
  dsimp only
  split
  · split
    · exact (hstore _).trans (State.workOn_closeRecord ..)
    · exact haccount.trans (State.workOn_closeRecord ..)
  · unfold State.lengthTests
    dsimp only
    split
    · exact (hstore _).trans (State.workOn_closeRecord ..)
    · split
      · exact (hstore _).trans (State.workOn_closeRecord ..)
      · exact hstore _

/-- R94, R113: the descriptor that a record opens with leaves the pool. -/
theorem State.workOn_opening {s : State} {c : Channel} (h : (s.chan c).framer.state = .between)
    {granted : Bool} {p : Pools} {r : OpenRecord} {n : Nat}
    (hr : r.hasDescriptor = granted) (hb : r.bytes = [])
    (hseg : p.freeSegments = s.pools.freeSegments)
    (hdesc : p.freeDescriptors + granted.toNat = s.pools.freeDescriptors) :
    s.WorkOn c ({ s with pools := p }.modFramer c fun f =>
      { f with state := .inRecord r, preamble := n }) := by
  have ho : (s.chan c).openRecord? = none := Chan.openRecord?_eq_none.2 (by simp [h])
  refine ⟨rfl, fun d hd => State.chan_modFramer_other hd _ _, fun hn => hn.congr rfl, ?_,
    fun _ hp => ?_⟩
  · rw [State.chan_modFramer_same]
    exact Chan.keeps_of_same rfl rfl rfl rfl
      (fun hb => { hb with
        framer := by have := hb.framer; rw [h] at this; exact this
        gapTimer := fun _ => by simp })
      (fun _ _ _ => .rfl) fun _ _ hp => hp.congr rfl id rfl fun _ _ => id
  · have hheld := hp.held
    simp only [Chan.segmentsHeld, Framer.openSegments, h, FramerState.record] at hheld
    obtain ⟨hafter, hheld'⟩ := Chan.pooled_inRecord (k := ({ s with pools := p }.modFramer c fun f =>
      { f with state := .inRecord r, preamble := n }).chan c) (r := r) (by simp)
    rw [hafter, hheld']
    simp only [Chan.descriptorsHeld, Framer.openDescriptors, h, FramerState.record, hb, hr,
      State.chan_modFramer_same, State.chan_mk, State.getElem_chans, State.modFramer_pools] at *
    refine ⟨⟨?_, fun _ => trivial⟩, by omega, by omega⟩
    simpa [segmentsOf] using hheld

/-- R94: a character that opens a record. -/
theorem State.workOn_openRecord {s : State} {c : Channel}
    (h : (s.chan c).framer.state = .between) (x : Character) (opening : Bool) :
    s.WorkOn c (s.openRecord c x opening) := by
  have asked {p : Pools} {granted : Bool} (hask : s.askDescriptor = ({ s with pools := p }, granted))
      (hseg : p.freeSegments = s.pools.freeSegments)
      (hdesc : p.freeDescriptors + granted.toNat = s.pools.freeDescriptors) :
      s.WorkOn c (s.openRecord c x opening) := by
    unfold State.openRecord
    rw [hask]
    have hopening := State.workOn_opening h (n := 0)
      (r := ({ s with pools := p }.chan c).openingRecord x granted) rfl rfl hseg hdesc
    exact hopening.trans (State.workOn_recordCharacter
      (Chan.openRecord?_eq_some.2 (by rw [State.chan_modFramer_same])) x opening)
  rcases Nat.eq_zero_or_pos s.pools.freeDescriptors with hfree | hfree
  · exact asked (askDescriptor_refused hfree) rfl rfl
  · exact asked (askDescriptor_granted hfree) rfl (Nat.sub_add_cancel hfree)

/-- A change of the statistics. -/
theorem State.workOn_modStats (s : State) (c : Channel) (f : Statistics → Statistics) :
    s.WorkOn c (s.modStats c f) :=
  State.workOn_modChan (Chan.keeps_of_same rfl rfl rfl rfl (fun hb => { hb with })
    (fun _ _ _ => .rfl) fun _ _ hp => hp.congr rfl id rfl fun _ _ => id) rfl fun _ => rfl

/-- A change of the running preamble count. -/
theorem State.workOn_preamble (s : State) (c : Channel) (f : Framer → Nat) :
    s.WorkOn c (s.modFramer c fun fr => { fr with preamble := f fr }) :=
  State.workOn_modChan (Chan.keeps_of_same rfl rfl rfl rfl (fun hb => { hb with })
    (fun _ _ _ => .rfl) fun _ _ hp => hp.congr rfl id rfl fun _ _ => id) rfl fun _ => rfl

/-- Section 5.11: a character event taken by the framer. -/
theorem State.workOn_frameCharacter (s : State) (c : Channel) (x : Character) :
    s.WorkOn c (s.frameCharacter c x) := by
  unfold State.frameCharacter
  split
  · exact .refl c s
  all_goals
    rename_i hs
    refine .trans (State.workOn_restartGap (by simp [hs]) x.endInstant) ?_
    have hs' : ((s.modChan c fun k => k.restartGap x.endInstant).chan c).framer.state =
        (s.chan c).framer.state := by simp [Chan.restartGap]
    rw [hs] at hs'
  · unfold State.aligningCharacter
    dsimp only
    split
    · exact .trans (State.workOn_modStats ..) (State.workOn_boundaryFound (by
          rw [State.chan_modStats_same]; exact hs'))
    · exact State.workOn_modStats ..
  · unfold State.betweenCharacter
    split
    · exact State.workOn_openRecord hs' x _
    · split
      · exact State.workOn_openRecord hs' x _
      · exact .trans (State.workOn_preamble _ c fun f => count16 f.preamble 1)
          (State.workOn_modStats ..)
  · exact State.workOn_recordCharacter (Chan.openRecord?_eq_some.2 hs') x false

/-- R98: a break event taken by the framer. -/
theorem State.workOn_frameBreak (s : State) (c : Channel) (x : Instant) :
    s.WorkOn c (s.frameBreak c x) := by
  unfold State.frameBreak
  split
  · exact .refl c s
  all_goals
    rename_i hs
    have hgap := State.workOn_restartGap (s := s) (c := c) (by simp [hs]) x
  · exact hgap
  · exact hgap
  · exact hgap.trans (State.workOn_closeRecord ..)

/-! ### The sampler (R78, R84 to R86) -/

/-- R78: the hunt goes on, or a character begins under the tracked period. -/
theorem Sampler.huntFrom_cases (p : Sampler) (space : Level) (since : Nat) :
    (p.huntFrom space since = { p with decode := .hunt since, edges := [] }) ∨
      ∃ (e : Edge) (rest : List Edge), p.huntFrom space since =
        { p with decode := .sampling e.tick p.trackedPeriod, edges := rest } := by
  unfold Sampler.huntFrom
  split
  · exact .inr ⟨_, _, rfl⟩
  · exact .inl rfl

/-- R78, R81: settling changes the decode state and the edges in hand alone. A decode state that it
gives is the one before, a hunt, or a character under the tracked period; it stops nothing and
starts nothing that is stopped. -/
theorem Sampler.settle_cases (p : Sampler) (pol : Polarity) :
    ∃ decode edges, p.settle pol = { p with decode := decode, edges := edges } ∧
      (decode = .stopped ↔ p.decode = .stopped) ∧
      (decode = p.decode ∨ (∃ since, decode = .hunt since) ∨
        ∃ t, decode = .sampling t p.trackedPeriod) := by
  have hhunt (q : Sampler) (since : Nat) (hq : q.trackedPeriod = p.trackedPeriod)
      (hrest : ∀ decode edges, { q with decode := decode, edges := edges } =
        { p with decode := decode, edges := edges }) (hp : p.decode ≠ .stopped) :
      ∃ decode edges, q.huntFrom pol.space since = { p with decode := decode, edges := edges } ∧
        (decode = .stopped ↔ p.decode = .stopped) ∧
        (decode = p.decode ∨ (∃ since, decode = .hunt since) ∨
          ∃ t, decode = .sampling t p.trackedPeriod) := by
    rcases q.huntFrom_cases pol.space since with h | ⟨e, rest, h⟩
    · exact ⟨_, _, h.trans (hrest _ _), by simp [hp], .inr (.inl ⟨_, rfl⟩)⟩
    · exact ⟨_, _, h.trans (hrest _ _), by simp [hp], .inr (.inr ⟨_, by rw [hq]⟩)⟩
  unfold Sampler.settle
  split
  · exact hhunt p _ rfl (fun _ _ => rfl) (by simp [*])
  · split
    · exact hhunt _ _ rfl (fun _ _ => rfl) (by simp [*])
    · exact ⟨p.decode, [], rfl, .rfl, .inl rfl⟩
  all_goals exact ⟨p.decode, p.edges, rfl, .rfl, .inl rfl⟩

/-- A change of the decode state and the edges in hand, which starts and stops no decoding and
gives a character none but a period in range. -/
theorem Chan.keeps_decode {k : Chan} {p : Sampler}
    (hd : k.Blocks → (p.decode = .stopped ↔ k.sampler.decode = .stopped))
    (ht : p.trackedPeriod = k.sampler.trackedPeriod)
    (hc : ∀ t per, p.decode = .sampling t per ∨ p.decode = .spaceHeld t per →
      (k.sampler.decode = .sampling t per ∨ k.sampler.decode = .spaceHeld t per) ∨
        per = k.sampler.trackedPeriod) (x : Statistics) :
    k.Keeps { k with sampler := p, stats := x } := by
  refine Chan.keeps_of_same rfl rfl rfl rfl (fun hb => { hb with
    sampler := (hd hb).trans hb.sampler }) (fun _ _ _ => .rfl) fun hb _ hp => ⟨hp.rate, ?_, ?_⟩
  · exact fun hx => by simpa only [ht] using hp.tracked hx
  · intro t per hx
    rcases hc t per hx with hx' | rfl
    · exact hp.character t per hx'
    · refine hp.tracked ?_
      rw [← Bool.not_eq_false, ← hb.sampler, ← hd hb]
      rcases hx with hx | hx <;> simp [show p.decode = _ from hx]

/-- R78: settling the sampler. -/
theorem Chan.keeps_settleSampler (k : Chan) : k.Keeps k.settleSampler := by
  unfold Chan.settleSampler
  obtain ⟨decode, edges, h, hstop, hcases⟩ := k.sampler.settle_cases k.working.line.polarity
  rw [h]
  refine Chan.keeps_decode (p := { k.sampler with decode := decode, edges := edges })
    (fun _ => hstop) rfl (fun t per hx => ?_) k.stats
  rcases hcases with rfl | ⟨since, rfl⟩ | ⟨t', rfl⟩
  · exact .inl hx
  · simp at hx
  · refine .inr ?_
    simp at hx
    exact hx.2.symm

theorem State.workOn_settleSampler (s : State) (c : Channel) :
    s.WorkOn c (s.modChan c Chan.settleSampler) :=
  State.workOn_modChan (Chan.keeps_settleSampler _) rfl fun _ => rfl

/-! ### The bit clock (R77, R86) -/

/-- R1, R12: a nominal rate that is defined lies in 300..3,000,000. -/
theorem rateEntryValid_range {r : Nat} (h : rateEntryValid r = true) (h0 : r ≠ 0) :
    300 ≤ r ∧ r ≤ 3000000 := by
  simpa [rateEntryValid, h0] using h

/-- R77: a period limited to 0.875 and 1.125 of the nominal is in range. -/
theorem periodInRange_clamp {nominal : Nat} (h0 : 0 < nominal) (hle : nominal ≤ 3000000) (p : Nat) :
    periodInRange nominal (max (periodFloor nominal) (min (periodCeiling nominal) p)) := by
  have hfloor : 8 * nominal * periodFloor nominal +
      (7 * ticksPerSecond * 256 + 8 * nominal - 1) % (8 * nominal) =
        7 * ticksPerSecond * 256 + 8 * nominal - 1 := Nat.div_add_mod ..
  have hceil : 8 * nominal * periodCeiling nominal + 9 * ticksPerSecond * 256 % (8 * nominal) =
      9 * ticksPerSecond * 256 := Nat.div_add_mod ..
  have hfm := Nat.mod_lt (7 * ticksPerSecond * 256 + 8 * nominal - 1) (y := 8 * nominal) (by omega)
  have hcm := Nat.mod_lt (9 * ticksPerSecond * 256) (y := 8 * nominal) (by omega)
  have hmono {a b : Nat} (h : a ≤ b) : 8 * nominal * a ≤ 8 * nominal * b := Nat.mul_le_mul_left _ h
  simp only [ticksPerSecond] at hfloor hceil hfm hcm
  have hle : periodFloor nominal ≤ periodCeiling nominal := by
    refine Nat.le_of_lt_succ (Nat.lt_of_mul_lt_mul_left (a := 8 * nominal) ?_)
    rw [Nat.succ_eq_add_one, Nat.mul_add]
    omega
  have hlow := hmono (le_max_left (periodFloor nominal) (min (periodCeiling nominal) p))
  have hhigh := hmono (max_le hle (min_le_left (periodCeiling nominal) p))
  unfold periodInRange
  omega

/-- R77: the nominal period of a defined rate is in range. -/
theorem periodInRange_nominalPeriod {nominal : Nat} (h0 : 0 < nominal) (hle : nominal ≤ 3000000) :
    periodInRange nominal (nominalPeriod nominal) := by
  have hdiv := Nat.div_add_mod (ticksPerSecond * 256) nominal
  have hmod := Nat.mod_lt (ticksPerSecond * 256) h0
  have hround : nominalPeriod nominal = ticksPerSecond * 256 / nominal ∨
      nominalPeriod nominal = ticksPerSecond * 256 / nominal + 1 := by
    unfold nominalPeriod
    generalize ticksPerSecond * 256 = n
    dsimp only
    split_ifs
    exacts [.inl rfl, .inr rfl, .inr rfl, .inl rfl]
  unfold periodInRange
  rcases hround with h | h <;> rw [h] <;> simp only [ticksPerSecond] at * <;>
    [skip; rw [Nat.mul_add]] <;> rw [Nat.mul_assoc] <;> omega

/-! ### The quality window (R36 to R41) -/

/-- The blocks of a channel at rest: framer in IDLE, sampler stopped, no timer running. -/
theorem Chan.blocks_of_rest {k : Chan} (hf : k.framer.state = .idle) (hg : k.framer.gapTimer = none)
    (hd : k.sampler.decode = .stopped) (hl : k.ctl.lock.decoding = false)
    (hgather : k.ctl.gatherTimer = none) (hhold : k.ctl.holdoverTimer = none)
    (hdormant : k.ctl.dormantTimer = none) : k.Blocks := by
  constructor <;> simp_all [FramerState.follows]
  rintro h
  simp [h, LockState.decoding] at hl

/-- A controller's counts and lengths of the window stand for nothing that the laws read. -/
theorem Chan.keeps_window {k : Chan} {chars errors length : Nat} :
    k.Keeps { k with ctl :=
      { k.ctl with windowChars := chars, windowErrors := errors, windowLength := length } } :=
  Chan.keeps_of_same rfl rfl rfl rfl (fun hb => { hb with }) (fun _ _ _ => .rfl)
    fun _ _ hp => hp.congr rfl id rfl fun _ _ => id

/-- R37: the next window begins. -/
theorem State.workOn_nextWindow (s : State) (c : Channel) :
    s.WorkOn c (s.modChan c Chan.nextWindow) :=
  State.workOn_modChan
    ((Chan.keeps_decode (p := (s.chan c).sampler.sumsCleared) (fun _ => .rfl) rfl
      (fun _ _ => .inl) _).trans Chan.keeps_window) rfl fun _ => rfl

/-- R38, R86: the period corrected by a passing window. -/
theorem Chan.keeps_corrected (k : Chan) :
    k.Keeps { k with sampler := k.sampler.corrected k.working.nominal } := by
  refine Chan.keeps_of_same rfl rfl rfl rfl (fun hb => { hb with }) (fun _ _ _ => .rfl)
    fun hb hp hc => ⟨hc.rate, fun hx => ?_, hc.character⟩
  have h0 := hc.rate (hb.confirmed hx)
  exact periodInRange_clamp (Nat.pos_of_ne_zero h0) (rateEntryValid_range hp.nominal h0).2 _

/-- R30: the retry test, by its outcome. -/
theorem retryTest_eq (s : State) (c : Channel) :
    s.retryTest c =
      if (s.chan c).ctl.retryCount + 1 ≤ (s.chan c).config.retryLimit then
        s.modChan c fun k =>
          { k with ctl := { k.ctl with retryCount := k.ctl.retryCount + 1 } }.enterQuiet s.now
      else
        (s.modChan c fun k =>
          { k with ctl :=
            { k.ctl with retryCount := k.ctl.retryCount + 1, lock := .failed } }).postChan c .failed
          (.failed (s.chan c).ctl.lastOutcome ((s.chan c).ctl.retryCount + 1)) := by
  unfold State.retryTest
  simp only [State.modCtl_eq, State.modChan_modChan, State.chan_modChan_same]
  rfl

end Sys2Proof.Machine
end

section
/-! The windows, character events, breaks and releases: work on their channel. -/

namespace Sys2Proof.Machine

/-! ### The quality window (R36 to R41) -/

/-- A change from one unwatched lock state to another leaves the watched ones alone. -/
theorem LockState.unwatched_iff {l l' : LockState} (h : l.watched = false) (h' : l'.watched = false)
    (x : LockState) (hx : x.watched = true) : l' = x ↔ l = x := by
  constructor <;> rintro rfl <;> simp_all

theorem LockState.unwatched_of_decoding {l : LockState} (h : l.decoding = true) :
    l.watched = false := by
  cases l <;> simp_all [LockState.decoding, LockState.watched]

/-- A channel without an open record holds nothing in it. -/
theorem Chan.openHolding_eq_none {k : Chan} (h : ∀ r, k.framer.state ≠ .inRecord r) :
    k.openHolding = none := by
  rw [Chan.openHolding, Chan.openRecord?_eq_none.2 h]
  rfl

/-- A channel that stops decoding comes to rest, in a lock state that no queue and no mode hangs on
and with no record open. -/
theorem State.workOn_rest {s : State} {c : Channel} {f : Chan → Chan}
    (hlock : (s.chan c).ctl.lock.decoding = true)
    (hrecord : (s.chan c).Blocks → ∀ r, (s.chan c).framer.state ≠ .inRecord r)
    (hc : (f (s.chan c)).config = (s.chan c).config) (hg : (f (s.chan c)).given = (s.chan c).given)
    (hw : (f (s.chan c)).working = (s.chan c).working)
    (hs : (f (s.chan c)).store = (s.chan c).store)
    (hf : (f (s.chan c)).framer.state = .idle) (ht : (f (s.chan c)).framer.gapTimer = none)
    (hd : (f (s.chan c)).sampler.decode = .stopped)
    (hl : (f (s.chan c)).ctl.lock = .quiet ∨ (f (s.chan c)).ctl.lock = .failed)
    (hgather : (s.chan c).ctl.gatherTimer = none → (f (s.chan c)).ctl.gatherTimer = none)
    (hhold : (f (s.chan c)).ctl.holdoverTimer = none)
    (hdormant : (f (s.chan c)).ctl.dormantTimer = none) :
    s.WorkOn c (s.modChan c f) := by
  have hrest : (f (s.chan c)).ctl.lock.decoding = false ∧
      (f (s.chan c)).ctl.lock.watched = false := by
    rcases hl with h | h <;> rw [h] <;> exact ⟨rfl, rfl⟩
  refine State.workOn_modChan (Chan.keeps_of_same hc hg hw hs (fun hb => ?_)
    (fun _ => LockState.unwatched_iff (LockState.unwatched_of_decoding hlock) hrest.2)
    fun _ _ hp => ?_) hs fun hb => ?_
  · refine Chan.blocks_of_rest hf ht hd hrest.1 (hgather ?_) hhold hdormant
    rw [← Option.not_isSome_iff_eq_none]
    intro hsome
    rw [hb.gatherTimer hsome] at hlock
    exact absurd hlock (by decide)
  · refine ⟨by rw [hw]; exact hp.rate, fun hx => ?_, fun t per hx => ?_⟩
    · rw [hrest.1] at hx
      exact absurd hx (by decide)
    · rw [hd] at hx
      simp at hx
  · rw [Chan.openHolding_eq_none (hrecord hb), Chan.openHolding_eq_none (by simp [hf])]

/-- R39: a failing window in ALIGN. -/
theorem State.workOn_leaveAlign {s : State} {c : Channel} (h : (s.chan c).ctl.lock = .align) :
    s.WorkOn c ((s.modChan c Chan.leaveDecoding).retryTest c) := by
  have hnone (hb : (s.chan c).Blocks) (r : OpenRecord) :
      (s.chan c).framer.state ≠ .inRecord r := fun hr => by
    have := hb.framer
    simp [hr, FramerState.follows, h] at this
  have hlock : (s.chan c).ctl.lock.decoding = true := by rw [h]; rfl
  rw [retryTest_eq]
  split
  · rw [State.modChan_modChan]
    exact State.workOn_rest hlock hnone rfl rfl rfl rfl rfl rfl rfl (.inl rfl) (fun _ => rfl) rfl rfl
  · rw [State.modChan_modChan]
    exact .trans (State.workOn_rest hlock hnone rfl rfl rfl rfl rfl rfl rfl (.inr rfl) id rfl rfl)
      (workOn_postChan c c _ rfl)

/-- R40: LOCKED to DEGRADED. -/
theorem State.workOn_enterDegraded {s : State} {c : Channel} (h : (s.chan c).ctl.lock = .locked) :
    s.WorkOn c (s.enterDegraded c) := by
  have hrecord := (s.workOn_modRecord c (f := fun r => { r with suspect := true }) (fun _ => rfl)
    fun _ => rfl)
  have hlock : ((s.modRecord c fun r => { r with suspect := true }).chan c).ctl.lock = .locked := by
    rw [State.modRecord, State.chan_modFramer_same]
    exact h
  have hrest : s.enterDegraded c =
      (s.modRecord c fun r => { r with suspect := true }).modChan c fun k =>
        { k with
          ctl :=
            { k.ctl with
              lock := .degraded
              holdoverTimer := some (s.expiryInMs k.config.holdoverMs) }
          stats := { k.stats with degradedEntries := count32 k.stats.degradedEntries 1 } } := by
    rw [State.modRecord, State.modFramer_eq, State.modChan_modChan]
    rfl
  rw [hrest]
  refine hrecord.trans (State.workOn_modChan (Chan.keeps_of_same rfl rfl rfl rfl (fun hb => ?_)
    (fun _ => ?_) fun _ _ hp => ?_) rfl fun _ => rfl)
  · obtain ⟨h1, h2, h3, h4, h5, h6, h7⟩ := hb
    refine ⟨?_, h2, ?_, ?_, ?_, by simp, fun _ => rfl⟩
    · rw [hlock] at h1
      revert h1
      generalize (((s.modRecord c fun r => { r with suspect := true }).chan c).framer.state) = x
      cases x <;> simp [FramerState.follows, LockState.decoding]
    · rw [h3, hlock]
      rfl
    · exact fun _ => h4 (by rw [hlock]; rfl)
    · intro hx
      rw [hlock] at h5
      exact absurd (h5 hx) (by decide)
  · rw [hlock]
    exact LockState.unwatched_iff rfl rfl
  · exact hp.congr rfl (fun _ => by rw [hlock]; rfl) rfl fun _ _ => id

/-- R38: a passing window takes DEGRADED back to LOCKED. -/
theorem State.workOn_regain {s : State} {c : Channel} (h : (s.chan c).ctl.lock = .degraded) :
    s.WorkOn c ((s.modCtl c fun d => { d with holdoverTimer := none }).enterLocked c true) := by
  have hrest : (s.modCtl c fun d => { d with holdoverTimer := none }).modCtl c
      (fun d => { d with lock := .locked, retryCount := 0 }) =
      s.modChan c fun k => { k with ctl :=
        { k.ctl with holdoverTimer := none, lock := .locked, retryCount := 0 } } := by
    rw [State.modCtl_eq, State.modCtl_eq, State.modChan_modChan]
  unfold State.enterLocked
  rw [hrest]
  refine .trans (State.workOn_modChan (Chan.keeps_of_same rfl rfl rfl rfl (fun hb => ?_)
    (fun _ => ?_) fun _ _ hp => ?_) rfl fun _ => rfl) (workOn_postChan c c _ rfl)
  · obtain ⟨h1, h2, h3, h4, h5, h6, h7⟩ := hb
    refine ⟨?_, h2, ?_, ?_, ?_, by simp, fun _ => rfl⟩
    · rw [h] at h1
      revert h1
      generalize (s.chan c).framer.state = x
      cases x <;> simp [FramerState.follows, LockState.decoding]
    · rw [h3, h]
      rfl
    · exact fun _ => h4 (by rw [h]; rfl)
    · intro hx
      rw [h] at h5
      exact absurd (h5 hx) (by decide)
  · rw [h]
    exact LockState.unwatched_iff rfl rfl
  · exact hp.congr rfl (fun _ => by rw [h]; rfl) rfl fun _ _ => id

/-- R37: the end of a window. -/
theorem State.workOn_windowEnd (s : State) (c : Channel) : s.WorkOn c (s.windowEnd c) := by
  unfold State.windowEnd
  refine .trans ?_ (State.workOn_nextWindow _ c)
  split
  · have hcorrected : s.WorkOn c (s.modChan c fun k =>
        { k with sampler := k.sampler.corrected k.working.nominal }) :=
      State.workOn_modChan (Chan.keeps_corrected _) rfl fun _ => rfl
    unfold State.windowPass
    dsimp only
    split
    · exact hcorrected.trans (State.workOn_regain ‹_›)
    · exact hcorrected
  · unfold State.windowFail
    split
    · exact State.workOn_leaveAlign ‹_›
    · exact (State.workOn_enterDegraded ‹_›).trans (workOn_postChan c c _ rfl)
    · exact workOn_postChan c c _ rfl
    all_goals exact .refl c s

/-- R36: a character counted for the window. -/
theorem State.workOn_countCharacter (s : State) (c : Channel) (x : Character) :
    s.WorkOn c (s.countCharacter c x) := by
  unfold State.countCharacter
  have hcount : s.WorkOn c (s.modCtl c fun d =>
      { d with
        windowChars := d.windowChars + 1
        windowErrors := d.windowErrors + x.errored.toNat }) :=
    State.workOn_modChan Chan.keeps_window rfl fun _ => rfl
  dsimp only
  split
  · exact hcount.trans (State.workOn_windowEnd _ c)
  · exact hcount

/-! ### Character events, false starts and breaks (R78 to R82) -/

/-- A write of a decoding sampler and of the statistics, no character being begun. -/
theorem State.workOn_decode {s : State} {c : Channel} {f : Chan → Sampler}
    {g : Chan → Statistics} (h : (s.chan c).sampler.decode ≠ .stopped)
    (ht : (f (s.chan c)).trackedPeriod = (s.chan c).sampler.trackedPeriod)
    (hd : (f (s.chan c)).decode ≠ .stopped)
    (hc : ∀ t per, (f (s.chan c)).decode = .sampling t per ∨
        (f (s.chan c)).decode = .spaceHeld t per →
      (s.chan c).sampler.decode = .sampling t per ∨ (s.chan c).sampler.decode = .spaceHeld t per) :
    s.WorkOn c (s.modChan c fun k => { k with stats := g k, sampler := f k }) :=
  State.workOn_modChan (Chan.keeps_decode (fun _ => iff_of_false hd h) ht
    (fun t per hx => .inl (hc t per hx)) _) rfl fun _ => rfl

/-- R82: a character event. -/
theorem State.workOn_characterEvent {s : State} {c : Channel}
    (h : (s.chan c).sampler.decode ≠ .stopped) (t per since : Nat) :
    s.WorkOn c (s.characterEvent c t per since) := by
  unfold State.characterEvent
  have htracked (p : Sampler) (x : Character) (cb : Nat) :
      (p.addOffset x t per cb).trackedPeriod = p.trackedPeriod := by
    unfold Sampler.addOffset; split <;> rfl
  exact .trans (.trans (.trans
    (State.workOn_decode h (htracked ..) (by simp) (by simp))
    (State.workOn_frameCharacter ..)) (State.workOn_countCharacter ..))
    (State.workOn_settleSampler _ c)

/-- R79: a false start. -/
theorem State.workOn_falseStart {s : State} {c : Channel}
    (h : (s.chan c).sampler.decode ≠ .stopped) (t : Nat) : s.WorkOn c (s.falseStart c t) := by
  unfold State.falseStart
  refine .trans ?_ (State.workOn_takeHeldGap _ c)
  have hcount := State.workOn_decode (s := s) (c := c)
    (f := fun k => { k.sampler with decode := .hunt t })
    (g := fun k => { k.stats with falseStarts := count32 k.stats.falseStarts 1 }) h rfl (by simp)
    (by simp)
  have := hcount.trans (State.workOn_settleSampler _ c)
  rwa [State.modChan_modChan] at this

/-- R78, R81: SPACE_HELD from SAMPLING. -/
theorem State.workOn_holdSpace {s : State} {c : Channel} {t per : Nat}
    (h : (s.chan c).sampler.decode = .sampling t per) : s.WorkOn c (s.holdSpace c t per) := by
  have hd : (s.chan c).sampler.decode ≠ .stopped := by simp [h]
  exact State.workOn_decode (s := s) (c := c)
    (f := fun k => { k.sampler with decode := .spaceHeld t per }) (g := fun k => k.stats) hd rfl
    (by simp) fun t' per' hx => by simp at hx; simp [h, hx]

/-- R81, R98: a break event. -/
theorem State.workOn_breakEvent {s : State} {c : Channel}
    (h : (s.chan c).sampler.decode ≠ .stopped) (x : Instant) : s.WorkOn c (s.breakEvent c x) := by
  unfold State.breakEvent
  have hcount := State.workOn_decode (s := s) (c := c)
    (f := fun k => { k.sampler with decode := .waitMark x.ceil })
    (g := fun k => { k.stats with breaks := count32 k.stats.breaks 1 }) h rfl (by simp) (by simp)
  exact (hcount.trans (State.workOn_frameBreak ..)).trans (State.workOn_settleSampler _ c)

/-! ### Releases (R43, R44) -/

/-- R99: no record is open once the record has closed. -/
theorem framerState_closing_ne (s : State) (c : Channel) (cause : Cause) (t : BitVec 32)
    (r : OpenRecord) : ((s.closing c cause t).chan c).framer.state ≠ .inRecord r := by
  rcases hr : (s.chan c).openRecord? with _ | r'
  · rw [State.closing_of_none hr]
    exact Chan.openRecord?_eq_none.1 hr r
  · rw [State.closing_of_open hr]
    simp [Chan.closing_framerState hr]

@[simp] theorem ctl_closing (s : State) (c d : Channel) (cause : Cause) (t : BitVec 32) :
    ((s.closing c cause t).chan d).ctl = (s.chan d).ctl := by
  rcases hr : (s.chan c).openRecord? with _ | r
  · rw [State.closing_of_none hr]
  · rw [State.closing_of_open hr]
    by_cases hd : d = c
    · subst hd; simp
    · simp [State.chan_modChan_other hd]

/-- R43, R44: a decoding channel released. -/
theorem State.workOn_releaseChannel {s : State} {c : Channel}
    (h : (s.chan c).ctl.lock.decoding = true) (cause : Cause) {reason : ReleaseReason} :
    s.WorkOn c (s.releaseChannel c cause reason) := by
  unfold State.releaseChannel
  rw [closeRecord_eq]
  exact .trans (.trans (.trans (State.workOn_closing ..)
    (State.workOn_rest (by rw [ctl_closing]; exact h) (fun _ => framerState_closing_ne _ _ _ _)
      rfl rfl rfl rfl rfl rfl rfl (.inl rfl) (fun _ => rfl) rfl rfl))
    (State.workOn_modStats ..)) (workOn_postChan c c _ rfl)

end Sys2Proof.Machine
end

section
/-! What a running device keeps: the laws of the lock states, the pools, the notices and the
profiles, through the events of its channels and of its Trial Unit. -/

namespace Sys2Proof.Machine

/-- The law of the lock states but for the modes: what the blocks of the channels, the trial queue
and the service have to agree on. -/
structure State.Blocks (s : State) : Prop where
  channels : ∀ c, (s.chan c).Blocks
  once : s.trial.queue.Nodup
  queued : ∀ c, c ∈ s.trial.queue ↔ (s.chan c).ctl.lock = .queued
  served : ∀ c, s.inService c = true ↔ (s.chan c).ctl.lock = .trial

/-- A channel is in OFF exactly when its mode is OFF. -/
def Chan.ModeLaw (k : Chan) : Prop := k.ctl.lock = .off ↔ k.config.mode = .off

theorem State.lockLaw_iff {s : State} : s.LockLaw ↔ (∀ c, (s.chan c).ModeLaw) ∧ s.Blocks :=
  ⟨fun h => ⟨fun c => (h.channels c).mode,
      fun c => (Chan.lockLaw_iff.1 (h.channels c)).2, h.once, h.queued, h.served⟩,
    fun ⟨hm, h⟩ => ⟨fun c => Chan.lockLaw_iff.2 ⟨hm c, h.channels c⟩, h.once, h.queued, h.served⟩⟩

/-- `t` comes of `s` by what happens in a running device between two commands of the host: the link,
the pins, the rates and the commands waiting stand, and the laws are kept. -/
structure State.Keeps (s t : State) : Prop where
  rest : t =
    { s with
      time := t.time, chans := t.chans, trial := t.trial, pools := t.pools, notices := t.notices
      leaseCounter := t.leaseCounter, lineIn := t.lineIn }
  time : s.TimeLaw → t.TimeLaw
  notices : s.NoticeLaw → t.NoticeLaw
  leases : s.LeaseLaw → t.LeaseLaw
  fill : ∀ c, (s.chan c).FillLaw → (t.chan c).FillLaw
  configs : ∀ c, (t.chan c).config = (s.chan c).config
  modes : s.Blocks → ∀ c, (s.chan c).ModeLaw → (t.chan c).ModeLaw
  blocks : s.Blocks → t.Blocks
  pool : s.Blocks → s.PoolLaw → t.PoolLaw
  profile : s.ProfileLaw → t.ProfileLaw
  period : s.Blocks → s.ProfileLaw → s.PeriodLaw → t.PeriodLaw

theorem State.Keeps.refl (s : State) : s.Keeps s :=
  ⟨rfl, id, id, id, fun _ => id, fun _ => rfl, fun _ _ h => h, id, fun _ h => h, id,
    fun _ _ h => h⟩

theorem State.Keeps.trans {s t u : State} (h : s.Keeps t) (h' : t.Keeps u) : s.Keeps u := by
  refine ⟨?_, h'.time ∘ h.time, h'.notices ∘ h.notices, h'.leases ∘ h.leases,
    fun c => h'.fill c ∘ h.fill c, fun c => (h'.configs c).trans (h.configs c),
    fun hb c hm => h'.modes (h.blocks hb) c (h.modes hb c hm), h'.blocks ∘ h.blocks,
    fun hb hp => h'.pool (h.blocks hb) (h.pool hb hp), h'.profile ∘ h.profile,
    fun hb hp hc => h'.period (h.blocks hb) (h.profile hp) (h.period hb hp hc)⟩
  rw [h'.rest, h.rest]

/-! ### Time and pins -/

/-- R70: time that passes keeps the law of the Time Base. -/
theorem TimeLaw.advanceTo {s : State} (h : s.TimeLaw) (tick : Nat) : (s.advanceTo tick).TimeLaw := by
  unfold State.advanceTo
  split
  · exact h
  rename_i hlt
  obtain ⟨hc, hw⟩ := h
  have hle : s.time.ticks / 48 ≤ tick / 48 := Nat.div_le_div_right (by
    simp only [State.now] at hlt; omega)
  constructor <;> simp only [TimeBase.movedTo, ticksPerMicrosecond]
  · rw [hc]
    apply BitVec.eq_of_toNat_eq
    simp only [BitVec.toNat_ofNat]
    omega
  · rw [hc, hw]
    apply BitVec.eq_of_toNat_eq
    simp only [BitVec.toNat_ofNat, BitVec.toNat_add]
    omega

/-- A change of the time and the pins alone. -/
theorem State.keeps_of_time {s t : State} (ht : t = { s with time := t.time, lineIn := t.lineIn })
    (h : s.TimeLaw → t.TimeLaw) : s.Keeps t := by
  rw [ht] at h ⊢
  exact ⟨rfl, h, fun h => h.congr rfl, fun h => ⟨h.leases, h.counter⟩, fun _ => id, fun _ => rfl,
    fun _ _ h => h,
    fun h => ⟨h.channels, h.once, h.queued, h.served⟩,
    fun _ h => ⟨h.held, h.dropped, h.segments, h.descriptors⟩,
    fun h => ⟨h.rates, h.profiles, h.trial⟩, fun _ _ h => ⟨h.channels, h.trial⟩⟩

theorem State.keeps_advanceTo (s : State) (tick : Nat) : s.Keeps (s.advanceTo tick) :=
  State.keeps_of_time (by unfold State.advanceTo; split <;> rfl) fun h => TimeLaw.advanceTo h tick

/-! ### Work on one channel -/

theorem State.sumChans_eq (s : State) (f : Chan → Nat) : s.sumChans f = ∑ d, f (s.chan d) := by
  rw [Fin.sum_univ_eight]
  rfl

/-- A sum over the channels after one of them has changed. -/
theorem State.sumChans_othersAs {s t : State} {c : Channel} (h : t.OthersAs s c) (f : Chan → Nat) :
    t.sumChans f + f (s.chan c) = s.sumChans f + f (t.chan c) := by
  rw [State.sumChans_eq, State.sumChans_eq, ← Finset.add_sum_erase _ _ (Finset.mem_univ c),
    ← Finset.add_sum_erase _ (fun d => f (s.chan d)) (Finset.mem_univ c),
    Finset.sum_congr rfl fun d hd => by rw [h d (Finset.ne_of_mem_erase hd)]]
  omega

/-- What all the channels have, all have when one of them keeps it and the others stand. -/
theorem State.OthersAs.forall {s t : State} {c : Channel} (h : t.OthersAs s c) {p : Chan → Prop}
    (hc : p (s.chan c) → p (t.chan c)) (hs : ∀ d, p (s.chan d)) (d : Channel) : p (t.chan d) := by
  by_cases hd : d = c
  · subst hd
    exact hc (hs d)
  · rw [h d hd]
    exact hs d

/-- The blocks of a device of which one channel has changed, its watched states apart. -/
theorem State.Blocks.of_othersAs {s t : State} {c : Channel} (h : s.Blocks) (ho : t.OthersAs s c)
    (ht : t.trial = s.trial) (hb : (t.chan c).Blocks)
    (hw : ∀ l : LockState, l.watched = true → ((t.chan c).ctl.lock = l ↔ (s.chan c).ctl.lock = l)) :
    t.Blocks := by
  have hlock (l : LockState) (hl : l.watched = true) (d : Channel) :
      (t.chan d).ctl.lock = l ↔ (s.chan d).ctl.lock = l := by
    by_cases hd : d = c
    · subst hd
      exact hw l hl
    · rw [ho d hd]
  refine ⟨ho.forall (fun _ => hb) h.channels, by rw [ht]; exact h.once, fun d => ?_, fun d => ?_⟩
  · rw [ht, hlock _ rfl]
    exact h.queued d
  · rw [hlock _ rfl, ← h.served d, State.inService, State.inService, ht]

/-- Work on one channel keeps the laws of the device. -/
theorem State.WorkOn.keeps {c : Channel} {s t : State} (h : State.WorkOn c s t) : s.Keeps t := by
  have hrest := h.rest
  have htrial : t.trial = s.trial := by rw [hrest]
  have htime : t.time = s.time := by rw [hrest]
  have hrates : t.rates = s.rates := by rw [hrest]
  have hcounter : t.leaseCounter = s.leaseCounter := by rw [hrest]
  refine ⟨by rw [hrest], fun hl => ?_, h.notices, fun hl => ?_, fun d hf => ?_, fun d => ?_,
    fun hb d => ?_, fun hb => ?_, fun hb hp => ?_, fun hp => ?_, fun hb hp hc => ?_⟩
  · exact ⟨by rw [htime]; exact hl.counter, by rw [htime]; exact hl.wraps⟩
  · exact ⟨h.others.forall h.chan.lease hl.leases, by rw [hcounter]; exact hl.counter⟩
  · by_cases hd : d = c
    · subst hd
      exact h.chan.fill hf
    · rwa [h.others d hd]
  · by_cases hd : d = c
    · rw [hd, h.chan.config]
    · rw [h.others d hd]
  · by_cases hd : d = c
    · rw [hd, Chan.ModeLaw, Chan.ModeLaw, h.chan.watched (hb.channels c) _ rfl, h.chan.config]
      exact id
    · rw [h.others d hd]
      exact id
  · exact hb.of_othersAs h.others htrial (h.chan.blocks (hb.channels c))
      (h.chan.watched (hb.channels c))
  · obtain ⟨hpooled, hseg, hdesc⟩ := h.pooled (hb.channels c) ⟨hp.held c, hp.dropped c⟩
    have hsum := State.sumChans_othersAs h.others fun k => k.store.held
    have hsum' := State.sumChans_othersAs h.others Chan.descriptorsHeld
    have := hp.segments
    have := hp.descriptors
    exact ⟨h.others.forall (p := fun k => k.store.held = k.segmentsHeld) (fun _ => hpooled.held)
        hp.held, h.others.forall (fun _ => hpooled.dropped) hp.dropped, by omega, by omega⟩
  · exact ⟨by rw [hrates]; exact hp.rates, h.others.forall h.chan.profile hp.profiles,
      by rw [htrial]; exact hp.trial⟩
  · exact ⟨h.others.forall (h.chan.period (hb.channels c) (hp.profiles c)) hc.channels,
      by rw [htrial]; exact hc.trial⟩

/-! ### The glitch filter and its edges (R25, R26, R72 to R74) -/

/-- A write of the sampler that leaves its decoding alone. -/
theorem State.workOn_modSampler {s : State} {c : Channel} {f : Sampler → Sampler}
    (hd : (f (s.chan c).sampler).decode = (s.chan c).sampler.decode)
    (ht : (f (s.chan c).sampler).trackedPeriod = (s.chan c).sampler.trackedPeriod) :
    s.WorkOn c (s.modSampler c f) :=
  State.workOn_modChan (Chan.keeps_decode (p := f (s.chan c).sampler) (fun _ => by rw [hd]) ht
    (fun t per hx => .inl (by rwa [hd] at hx)) _) rfl fun _ => rfl

/-- R25: a gather starts. -/
theorem State.workOn_gatherStart {s : State} {c : Channel} (h : (s.chan c).ctl.lock = .quiet)
    (e : Edge) : s.WorkOn c (s.gatherStart c e) := by
  refine State.workOn_modChan (Chan.keeps_of_same rfl rfl rfl rfl (fun hb => ?_) (fun _ => ?_)
    fun _ _ hp => ?_) rfl fun _ => rfl
  · obtain ⟨h1, h2, h3, h4, h5, h6, h7⟩ := hb
    rw [h] at h1 h3 h6 h7
    exact ⟨h1, h2, h3, fun hx => (Bool.false_ne_true hx).elim, fun _ => rfl, by simpa using h6, h7⟩
  · rw [h]
    exact LockState.unwatched_iff rfl rfl
  · exact hp.congr rfl (fun hx => (Bool.false_ne_true hx).elim) rfl fun _ _ => id

/-- R26: a further capture entry, and the gather-quiet timer again. -/
theorem State.workOn_gatherEntry {s : State} {c : Channel} (h : (s.chan c).ctl.lock = .gather)
    (e : Edge) {t : Chan → Option Nat} :
    s.WorkOn c (s.modChan c fun k =>
      { k with sampler := k.sampler.captureNext e, ctl := { k.ctl with gatherTimer := t k } }) :=
  State.workOn_modChan (Chan.keeps_of_same rfl rfl rfl rfl
    (fun hb => { hb with gatherTimer := fun _ => h }) (fun _ _ _ => .rfl)
    fun _ _ hp => hp.congr rfl id rfl fun _ _ => id) rfl fun _ => rfl

/-! ### The trial queue and the service (R26, R48 to R51) -/

/-- A channel that gets another controller, and the Trial Unit with it: the laws of the queue and
the service apart, nothing is read of it but that it does not decode and is not in OFF. -/
theorem State.keeps_of_ctl {s : State} {c : Channel} {ctl : Controller} {unit : TrialUnit}
    (hlock : s.Blocks → (s.chan c).ctl.lock ≠ .off) (hlock' : ctl.lock ≠ .off)
    (hrest : ctl.lock.decoding = false)
    (hblocks : s.Blocks → { s.modCtl c fun _ => ctl with trial := unit }.Blocks)
    (hprofile : s.ProfileLaw → ∀ t, unit.service = some t → t.ProfileLaw)
    (hperiod : s.ProfileLaw → s.PeriodLaw → ∀ t, unit.service = some t → t.PeriodLaw) :
    s.Keeps { s.modCtl c fun _ => ctl with trial := unit } := by
  have hself : ({ s.modCtl c fun _ => ctl with trial := unit } : State).chan c =
      { s.chan c with ctl := ctl } := State.chan_modCtl_same s c fun _ => ctl
  have hothers : State.OthersAs { s.modCtl c fun _ => ctl with trial := unit } s c :=
    fun d hd => State.chan_modCtl_other hd s fun _ => ctl
  refine ⟨rfl, fun h => ⟨h.counter, h.wraps⟩, fun h => h.congr rfl, fun hl => ?_, fun d hf => ?_,
    fun d => ?_, fun hb d => ?_, hblocks, fun hb hp => ?_, fun hp => ?_, fun hb hp hc => ?_⟩
  · exact ⟨hothers.forall (p := Chan.LeaseLegal) (by rw [hself]; exact id) hl.leases, hl.counter⟩
  · by_cases hd : d = c
    · subst hd
      exact hf.congr (by rw [hself]) (by rw [hself])
    · rwa [hothers d hd]
  · by_cases hd : d = c
    · rw [hd, hself]
    · rw [hothers d hd]
  · by_cases hd : d = c
    · rw [hd, hself]
      exact fun hx => iff_of_false hlock' (mt hx.2 (hlock hb))
    · rw [hothers d hd]
      exact id
  · have hsum := State.sumChans_othersAs hothers fun k => k.store.held
    have hsum' := State.sumChans_othersAs hothers Chan.descriptorsHeld
    rw [hself] at hsum hsum'
    refine ⟨hothers.forall (p := fun k => k.store.held = k.segmentsHeld) (by rw [hself]; exact id)
      hp.held, hothers.forall (p := Chan.droppedIsEmpty) (by rw [hself]; exact id) hp.dropped,
      (congrArg _ (Nat.add_right_cancel hsum)).trans hp.segments,
      (congrArg _ (Nat.add_right_cancel hsum')).trans hp.descriptors⟩
  · exact ⟨hp.rates, hothers.forall (fun hx => hx.congr (by rw [hself]) (by rw [hself]))
      hp.profiles, hprofile hp⟩
  · refine ⟨hothers.forall (fun hx => hx.congr (by rw [hself]) ?_ (by rw [hself]) ?_) hc.channels,
      hperiod hp hc⟩
    · rw [hself]
      exact fun hx => absurd (hrest.symm.trans hx) Bool.false_ne_true
    · rw [hself]
      exact fun _ _ => id

/-- R88: in a lock state that does not decode the framer is in IDLE. -/
theorem FramerState.follows_rest {f : FramerState} {l : LockState} (h : l.decoding = false) :
    f.follows l = true ↔ f = .idle := by
  cases l <;> simp only [LockState.decoding, Bool.true_eq_false] at h <;>
    cases f <;> simp [FramerState.follows, LockState.decoding]

/-- The blocks of a channel that passes from one resting lock state to another, its gather over. -/
theorem Chan.Blocks.rest {k : Chan} (hb : k.Blocks) (h : k.ctl.lock.decoding = false)
    {ctl : Controller} (h' : ctl.lock.decoding = false) (hg : ctl.gatherTimer = none)
    (hh : ctl.holdoverTimer = k.ctl.holdoverTimer) (hd : ctl.dormantTimer = k.ctl.dormantTimer) :
    { k with ctl := ctl }.Blocks := by
  have hnone {o : Option Nat} (ho : o.isSome = true → False) : o = none := by cases o <;> simp_all
  have hidle := (FramerState.follows_rest h).1 hb.framer
  refine Chan.blocks_of_rest hidle (by_contra fun hx => ?_) (hb.sampler.2 h) h' hg
    (hh.trans (hnone fun hx => ?_)) (hd.trans (hnone fun hx => ?_))
  · exact hb.gapTimer (Option.isSome_iff_ne_none.2 hx) hidle
  · rw [hb.holdoverTimer.1 hx] at h
    exact absurd h (by decide)
  · rw [hb.dormantTimer hx] at h
    exact absurd h (by decide)

/-- R26, R48: a channel whose gather is complete joins the trial queue. -/
theorem State.keeps_joinQueue {s : State} {c : Channel} (h : (s.chan c).ctl.lock = .gather) :
    s.Keeps (s.joinQueue c) := by
  refine State.keeps_of_ctl (ctl := { (s.chan c).ctl with lock := .queued, gatherTimer := none })
    (by simp [h]) (by simp) rfl (fun hb => ?_) (fun hp => hp.trial) fun _ hc => hc.trial
  have hnot : c ∉ s.trial.queue := fun hq => by
    rw [hb.queued, h] at hq
    exact absurd hq (by decide)
  have hothers : (s.joinQueue c).OthersAs s c := fun d hd =>
    State.chan_modCtl_other hd s fun d => { d with lock := .queued, gatherTimer := none }
  have hself : (s.joinQueue c).chan c = { s.chan c with ctl :=
      { (s.chan c).ctl with lock := .queued, gatherTimer := none } } :=
    State.chan_modCtl_same s c fun d => { d with lock := .queued, gatherTimer := none }
  change (s.joinQueue c).Blocks
  refine ⟨hothers.forall (p := Chan.Blocks) (fun hx => ?_) hb.channels, ?_, fun d => ?_, fun d => ?_⟩
  · rw [hself]
    exact hx.rest (by rw [h]; rfl) rfl rfl rfl rfl
  · change (s.trial.queue ++ [c]).Nodup
    rw [← List.concat_eq_append]
    exact hb.once.concat hnot
  · rw [show (s.joinQueue c).trial.queue = s.trial.queue ++ [c] from rfl, List.mem_append,
      List.mem_singleton]
    by_cases hd : d = c
    · simp [hd, hself]
    · rw [hothers d hd, hb.queued d, or_iff_left hd]
  · have hv : (s.joinQueue c).inService d = true ↔ _ := hb.served d
    by_cases hd : d = c
    · rw [hd, hself]
      rw [hd, h] at hv
      simpa using hv
    · rwa [hothers d hd]

end Sys2Proof.Machine
end

section
/-! What a running device keeps: the deliveries of edges, and the phases and the outcomes of the
Trial Unit. -/

namespace Sys2Proof.Machine

/-! ### Deliveries (R72 to R74) -/

/-- R44, R74: an edge in a decoding state. -/
theorem State.workOn_decodeEdge {s : State} {c : Channel}
    (h : (s.chan c).ctl.lock.decoding = true) (e : Edge) : s.WorkOn c (s.decodeEdge c e) := by
  have hedge : s.WorkOn c (s.modSampler c fun p => { p with edges := p.edges ++ [e] }) :=
    State.workOn_modSampler rfl rfl
  have hctl : ((s.modSampler c fun p => { p with edges := p.edges ++ [e] }).chan c).ctl =
      (s.chan c).ctl := by simp
  have hdormant := State.workOn_modChan (s := s.modSampler c fun p =>
      { p with edges := p.edges ++ [e] }) (c := c)
    (f := fun k => { k with ctl := { k.ctl with dormantTimer := s.dormantStart c } })
    (Chan.keeps_of_same rfl rfl rfl rfl
      (fun hb => { hb with dormantTimer := fun _ => by simpa using h }) (fun _ _ _ => .rfl)
      fun _ _ hp => hp.congr rfl id rfl fun _ _ => id) rfl fun _ => rfl
  have := (hedge.trans hdormant).trans (State.workOn_settleSampler _ c)
  rwa [State.modSampler_eq, State.modChan_modChan, State.modChan_modChan] at this

/-- R26: an edge in GATHER. -/
theorem State.keeps_gatherNext {s : State} {c : Channel} (h : (s.chan c).ctl.lock = .gather)
    (e : Edge) : s.Keeps (s.gatherNext c e) := by
  unfold State.gatherNext
  have hentry := (State.workOn_gatherEntry h e
    (t := fun k => some (s.expiryInMs k.ctl.gatherQuietMs))).keeps
  dsimp only
  split
  · exact hentry.trans (State.keeps_joinQueue (by rw [State.chan_modChan_same]; exact h))
  · exact hentry

/-- R72, R74: an accepted change delivered as an edge. -/
theorem State.keeps_deliverEdge (s : State) (c : Channel) (tick : Nat) :
    s.Keeps (s.deliverEdge c tick) := by
  have haccept (level : Level) : s.Keeps (s.modSampler c fun p =>
      { p with accepted := level, pendingChange := none }) :=
    (State.workOn_modSampler rfl rfl).keeps
  unfold State.deliverEdge
  refine .trans (haccept (s.chan c).sampler.accepted.other) ?_
  dsimp only
  split
  any_goals exact .refl _
  · exact (State.workOn_gatherStart ‹_› _).keeps
  · exact State.keeps_gatherNext ‹_› _
  all_goals
    rename_i h
    exact (State.workOn_decodeEdge (by rw [h]; rfl) _).keeps

theorem State.keeps_judgePending (s : State) (c : Channel) : s.Keeps (s.judgePending c) := by
  unfold State.judgePending
  split
  · split
    · exact s.keeps_deliverEdge c _
    · exact .refl s
  · exact .refl s

theorem State.keeps_passTo (s : State) (c : Channel) (tick : Nat) : s.Keeps (s.passTo c tick) := by
  unfold State.passTo
  split
  · exact s.keeps_advanceTo tick
  · dsimp only
    split
    · exact ((s.keeps_advanceTo _).trans (State.keeps_deliverEdge ..)).trans
        (State.keeps_advanceTo ..)
    · exact s.keeps_advanceTo tick

/-- R27: the gather-quiet timer expires. -/
theorem State.keeps_gatherExpired {s : State} {c : Channel} (h : (s.chan c).ctl.lock = .gather) :
    s.Keeps (s.gatherExpired c) := by
  unfold State.gatherExpired
  split
  · exact State.keeps_joinQueue h
  · exact (State.workOn_modChan (Chan.keeps_of_same rfl rfl rfl rfl
      (fun hb => { hb with gatherTimer := by simp }) (fun _ _ _ => .rfl)
      fun _ _ hp => hp.congr rfl id rfl fun _ _ => id) rfl fun _ => rfl).keeps

/-! ### The candidates of a trial (R1, R6, R8, R56 to R60) -/

/-- R6: the formats of the ladder are legal. -/
theorem formatLadder_legal {f : Format} (h : f ∈ formatLadder) :
    5 ≤ f.dataBits ∧ f.dataBits ≤ 8 ∧ 1 ≤ f.stopBits ∧ f.stopBits ≤ 2 := by
  revert f
  decide

theorem mem_insertRate {rates : Vector Nat 16} {estimate : Nat} {i j : Fin 16} {l : List (Fin 16)} :
    j ∈ insertRate rates estimate i l ↔ j = i ∨ j ∈ l := by
  induction l with
  | nil => simp [insertRate]
  | cons x xs ih =>
    unfold insertRate
    split
    · simp
    · simp only [List.mem_cons, ih]
      tauto

theorem mem_sortRates {rates : Vector Nat 16} {estimate : Nat} {j : Fin 16} {l : List (Fin 16)} :
    j ∈ sortRates rates estimate l ↔ j ∈ l := by
  induction l with
  | nil => simp [sortRates]
  | cons x xs ih => simp [sortRates, mem_insertRate, ih]

/-- R8: the permitted formats, in whatever order, are of the ladder, or as given. -/
theorem mem_formatOrder {n : Snapshot} {f : Format} (h : f ∈ formatOrder n) :
    f ∈ formatLadder ∨ f = n.given.format := by
  unfold formatOrder at h
  dsimp only at h
  split at h
  · rcases List.mem_cons.1 h with h | h
    · exact .inr h
    · exact .inl (List.mem_filter.1 (List.mem_filter.1 h).1).1
  · exact .inl (List.mem_filter.1 h).1

/-- R8, R57: an eligible rate is defined. -/
theorem eligibleRates_ne_zero {n : Snapshot} {estimate : Nat} {i : Fin 16}
    (h : i ∈ eligibleRates n estimate) : n.rates[i.val] ≠ 0 := by
  rw [eligibleRates, mem_sortRates] at h
  have := (List.mem_filter.1 (List.mem_filter.1 h).1).2
  simpa using this

/-- R57 to R60: a candidate of the built part stands at an eligible rate, in a permitted format. -/
theorem mem_builtCandidates {n : Snapshot} {estimate : Option Nat} {x : Candidate}
    (h : x ∈ builtCandidates n estimate) :
    ∃ r, estimate = some r ∧ x.line.rate ∈ eligibleRates n r ∧ x.line.format ∈ formatOrder n ∧
      x.line.polarity ∈ polarityOrder n ∧ x.nominal = n.rates[x.line.rate.val] ∧
      n.verifyFirst ≠ some x := by
  unfold builtCandidates at h
  split at h
  · simp at h
  rename_i r
  obtain ⟨hx, hne⟩ := List.mem_filter.1 h
  obtain ⟨i, hi, hx⟩ := List.mem_flatMap.1 hx
  obtain ⟨p, hp, hx⟩ := List.mem_flatMap.1 hx
  obtain ⟨f, hf, rfl⟩ := List.mem_map.1 hx
  exact ⟨r, rfl, hi, hf, hp, rfl, by simpa using hne⟩

/-- R51, R56: what a snapshot must hold for its candidates to be legal. -/
theorem candidateList_legal {n : Snapshot} (hg : n.given.valid = true)
    (hr : ∀ r ∈ n.rates.toList, rateEntryValid r = true)
    (hv : ∀ x, n.verifyFirst = some x → x.Legal) {estimate : Option Nat} {x : Candidate}
    (h : x ∈ candidateList n estimate) : x.Legal := by
  rcases List.mem_append.1 h with h | h
  · exact hv x (by simpa using h)
  · obtain ⟨-, -, -, hf, -, hn, -⟩ := mem_builtCandidates h
    refine ⟨?_, by rw [hn]; exact hr _ (by simp)⟩
    rcases mem_formatOrder hf with hf | hf
    · have := formatLadder_legal hf
      simp [LineFields.valid]
      omega
    · rw [LineFields.valid, hf]
      exact hg

/-- R51, R57: no candidate has the rate 0. -/
theorem candidateList_ne_zero {n : Snapshot} (hv : ∀ x, n.verifyFirst = some x → x.nominal ≠ 0)
    {estimate : Option Nat} {x : Candidate} (h : x ∈ candidateList n estimate) : x.nominal ≠ 0 := by
  rcases List.mem_append.1 h with h | h
  · exact hv x (by simpa using h)
  · obtain ⟨r, -, hi, -, -, hn, -⟩ := mem_builtCandidates h
    rw [hn]
    exact eligibleRates_ne_zero hi

/-- R53, R60: the estimate gives the list of the snapshot, or a verdict that chooses nothing. -/
theorem Trial.estimated_cases (t : Trial) :
    t.estimated.channel = t.channel ∧ t.estimated.snapshot = t.snapshot ∧
      (∀ list, t.estimated.candidates = some list → list = [] ∨ t.candidates = some list ∨
        ∃ e, list = candidateList t.snapshot e) ∧
      (∀ v x, t.estimated.verdict = some v → v.chosen = some x → t.verdict = some v) := by
  unfold Trial.estimated
  dsimp only
  split
  · exact ⟨rfl, rfl, fun _ h => .inr (.inl h), fun v x h hx => by
      obtain rfl := Option.some.inj h
      simp at hx⟩
  · exact ⟨rfl, rfl, fun _ h => .inl (Option.some.inj h).symm, fun v x h hx => by
      obtain rfl := Option.some.inj h
      simp at hx⟩
  · rename_i hlist
    exact ⟨rfl, rfl, fun _ h => .inr (.inr ⟨_, (Option.some.inj h).symm.trans hlist.symm⟩),
      fun v x h _ => h⟩

theorem Trial.ProfileLaw.estimated {t : Trial} (h : t.ProfileLaw) : t.estimated.ProfileLaw := by
  obtain ⟨-, hn, hlist, hverdict⟩ := t.estimated_cases
  refine ⟨by rw [hn]; exact h.given, by rw [hn]; exact h.rates, by rw [hn]; exact h.verifyFirst,
    fun list hl x hx => ?_, fun v x hv hx => h.chosen v x (hverdict v x hv hx) hx⟩
  rcases hlist list hl with rfl | hl | ⟨e, rfl⟩
  · simp at hx
  · exact h.candidates list hl x hx
  · exact candidateList_legal h.given h.rates h.verifyFirst hx

theorem Trial.PeriodLaw.estimated {t : Trial} (h : t.PeriodLaw) : t.estimated.PeriodLaw := by
  obtain ⟨-, hn, hlist, hverdict⟩ := t.estimated_cases
  refine ⟨by rw [hn]; exact h.verifyFirst,
    fun list hl x hx => ?_, fun v x hv hx => h.chosen v x (hverdict v x hv hx) hx⟩
  rcases hlist list hl with rfl | hl | ⟨e, rfl⟩
  · simp at hx
  · exact h.candidates list hl x hx
  · exact candidateList_ne_zero h.verifyFirst hx

/-- R65: what follows a miss chooses nothing. -/
theorem afterMiss_chosen {estimate : Option Nat} {done total budget : Nat} {v : Verdict}
    (h : afterMiss estimate done total budget = some v) : v.chosen = none := by
  unfold afterMiss at h
  split_ifs at h <;> simp at h <;> rw [← h]

/-- R64, R65: an evaluation chooses none but its candidate. -/
theorem Trial.evaluated_chosen {t : Trial} {x y : Candidate} {total : Nat} {v : Verdict}
    (h : (t.evaluated x total).verdict = some v) (hy : v.chosen = some y) : y = x := by
  unfold Trial.evaluated at h
  dsimp only at h
  split at h
  · obtain rfl := Option.some.inj h
    exact (Option.some.inj hy).symm
  · rw [afterMiss_chosen h] at hy
    simp at hy

/-- The trial in service goes on: its channel stands, and its laws are kept. -/
theorem State.keeps_setTrial {s : State} {t t' : Trial} (h : s.trial.service = some t)
    (hc : t'.channel = t.channel) (hprofile : t.ProfileLaw → t'.ProfileLaw)
    (hperiod : t.PeriodLaw → t'.PeriodLaw) : s.Keeps (s.setTrial t') := by
  have hservice (d : Channel) : (s.setTrial t').inService d = s.inService d := by
    simp [State.inService, State.setTrial, h, hc]
  refine ⟨rfl, fun h => ⟨h.counter, h.wraps⟩, fun h => h.congr rfl, fun h => ⟨h.leases, h.counter⟩,
    fun _ => id, fun _ => rfl, fun _ _ h => h,
    fun hb => ⟨hb.channels, hb.once, hb.queued, fun d => by rw [hservice]; exact hb.served d⟩,
    fun _ h => ⟨h.held, h.dropped, h.segments, h.descriptors⟩,
    fun hp => ⟨hp.rates, hp.profiles, fun u hu => ?_⟩, fun _ _ hc => ⟨hc.channels, fun u hu => ?_⟩⟩
  · obtain rfl := Option.some.inj hu
    exact hprofile (hp.trial t h)
  · obtain rfl := Option.some.inj hu
    exact hperiod (hc.trial t h)

/-- R49, R51: the head of the queue taken into service. -/
theorem State.keeps_takeHead (s : State) : s.Keeps s.takeHead := by
  unfold State.takeHead
  split
  swap
  · exact .refl s
  swap
  · exact .refl s
  rename_i c rest hservice hqueue
  have hqueued (hb : s.Blocks) : (s.chan c).ctl.lock = .queued :=
    (hb.queued c).1 (by rw [hqueue]; simp)
  refine State.keeps_of_ctl (ctl := { (s.chan c).ctl with lock := .trial })
    (fun hb => by rw [hqueued hb]; simp) (by simp) rfl (fun hb => ?_) (fun hp t ht => ?_)
    fun _ hc t ht => ?_
  · have hlock := hqueued hb
    have hself : (s.modCtl c fun d => { d with lock := .trial }).chan c = { s.chan c with ctl :=
        { (s.chan c).ctl with lock := .trial } } :=
      State.chan_modCtl_same s c fun d => { d with lock := .trial }
    have hothers : State.OthersAs (s.modCtl c fun d => { d with lock := .trial }) s c := fun d hd =>
      State.chan_modCtl_other hd s fun d => { d with lock := .trial }
    have hgather : (s.chan c).ctl.gatherTimer = none := by
      by_contra hx
      rw [hb.channels c |>.gatherTimer (Option.isSome_iff_ne_none.2 hx)] at hlock
      exact absurd hlock (by decide)
    have honce := hb.once
    rw [hqueue, List.nodup_cons] at honce
    refine ⟨hothers.forall (p := Chan.Blocks) (fun hx => ?_) hb.channels, honce.2,
      fun d => ?_, fun d => ?_⟩
    · rw [hself]
      exact hx.rest (by rw [hlock]; rfl) rfl hgather rfl rfl
    · change d ∈ rest ↔ ((s.modCtl c fun d => { d with lock := .trial }).chan d).ctl.lock = .queued
      by_cases hd : d = c
      · rw [hd, hself]
        simp [honce.1]
      · rw [hothers d hd, ← hb.queued d, hqueue, List.mem_cons, or_iff_right hd]
    · change decide (c = d) = true ↔
        ((s.modCtl c fun d => { d with lock := .trial }).chan d).ctl.lock = .trial
      by_cases hd : d = c
      · rw [hd, hself]
        simp
      · have := hb.served d
        rw [hothers d hd, ← this]
        simp [State.inService, hservice, Ne.symm hd]
  · obtain rfl := Option.some.inj ht
    have hk := hp.profiles c
    refine ⟨?_, hp.rates, fun x hx => ?_, by simp [newTrial], by simp [newTrial]⟩
    · exact (Bool.and_eq_true_iff.1 hk.given).1
    · simp only [newTrial, Chan.snapshot, WorkingProfile.verifyFirst] at hx
      split at hx
      · obtain rfl := Option.some.inj hx
        exact ⟨hk.line, hk.nominal⟩
      · simp at hx
  · obtain rfl := Option.some.inj ht
    refine ⟨fun x hx => ?_, by simp [newTrial], by simp [newTrial]⟩
    simp only [newTrial, Chan.snapshot, WorkingProfile.verifyFirst] at hx
    split at hx
    · obtain rfl := Option.some.inj hx
      exact (hc.channels c).rate ‹_›
    · simp at hx

end Sys2Proof.Machine
end

section
/-! A channel leaves the Trial Unit, or its state's work is undone: what giving up a place, undoing
the work of a state and the outcome of a trial make of the device, and that they keep its laws. -/

namespace Sys2Proof.Machine

/-! ### The unit without a channel (R31, R50, R68) -/

/-- The Trial Unit once channel `c` has neither a place in the queue nor a trial in service. -/
def State.unitLeft (s : State) (c : Channel) : TrialUnit :=
  { service := if s.inService c then none else s.trial.service
    queue := s.trial.queue.filter fun d => decide (d ≠ c) }

/-- What giving up makes of the channel: of a trial in service the report is stored and the
abandonment counted. -/
theorem giveUpTrial_eq (s : State) (c : Channel) :
    ∃ report abandoned, s.giveUpTrial c =
      { s.modChan c (fun k =>
          { k with
            ctl := { k.ctl with report := report }
            stats := { k.stats with abandonedTrials := abandoned } }) with
        trial := s.unitLeft c } := by
  rcases hs : s.inService c with _ | _
  · refine ⟨(s.chan c).ctl.report, (s.chan c).stats.abandonedTrials, ?_⟩
    rw [giveUpTrial_notServed hs, State.modChan_same s c rfl]
    simp [State.leaveQueue, State.unitLeft, hs]
  · rcases ht : s.trial.service with _ | t
    · simp [State.inService, ht] at hs
    · have hc : t.channel = c := by simpa [State.inService, ht] using hs
      refine ⟨some (t.report { outcome := .abandoned, chosen := none } s.deviceNow),
        count32 (s.chan c).stats.abandonedTrials 1, ?_⟩
      rw [giveUpTrial_served ht hc, State.unitLeft, hs]
      exact congrArg (fun u : State => { u with trial :=
        { service := none, queue := s.trial.queue.filter fun d => decide (d ≠ c) } })
        (State.modChan_congr rfl)

/-- A channel that is in neither queue nor service has nothing to give up. -/
theorem State.Blocks.giveUpTrial {s : State} (hb : s.Blocks) {c : Channel}
    (hq : (s.chan c).ctl.lock ≠ .queued) (ht : (s.chan c).ctl.lock ≠ .trial) :
    s.giveUpTrial c = s := by
  have hs : s.inService c = false := by
    rw [← Bool.not_eq_true, hb.served]
    exact ht
  have hfilter : s.trial.queue.filter (fun d => decide (d ≠ c)) = s.trial.queue := by
    rw [List.filter_eq_self]
    rintro d hd
    simp only [decide_eq_true_eq]
    rintro rfl
    exact hq ((hb.queued d).1 hd)
  rw [giveUpTrial_notServed hs]
  simp only [State.leaveQueue, hfilter]

/-- R50: a channel in service is not in the queue. -/
theorem State.Blocks.unitLeft {s : State} (hb : s.Blocks) {c : Channel}
    (hs : s.inService c = true) : s.unitLeft c = { s.trial with service := none } := by
  have hfilter : s.trial.queue.filter (fun d => decide (d ≠ c)) = s.trial.queue := by
    rw [List.filter_eq_self]
    intro d hd
    simp only [decide_eq_true_eq]
    rintro rfl
    have := (hb.queued d).1 hd
    rw [(hb.served d).1 hs] at this
    exact absurd this (by decide)
  simp only [State.unitLeft, hs, hfilter, if_true]

/-- The blocks of a device of which one channel has left the unit. -/
theorem State.Blocks.leave {s u : State} {c : Channel} (h : s.Blocks) (ho : u.OthersAs s c)
    (hunit : u.trial = s.unitLeft c) (hb : (u.chan c).Blocks)
    (hq : (u.chan c).ctl.lock ≠ .queued) (ht : (u.chan c).ctl.lock ≠ .trial) : u.Blocks := by
  have hmem (d : Channel) : d ∈ u.trial.queue ↔ d ∈ s.trial.queue ∧ d ≠ c := by
    simp [hunit, State.unitLeft]
  have hserved (d : Channel) : u.inService d = (s.inService d && decide (d ≠ c)) := by
    rcases hs : s.trial.service with _ | t
    · simp [State.inService, hunit, State.unitLeft, hs]
    · by_cases hc : t.channel = c
      · simp [State.inService, hunit, State.unitLeft, hs, hc, eq_comm]
      · by_cases hd : t.channel = d
        · subst hd; simp [State.inService, hunit, State.unitLeft, hs, hc]
        · simp [State.inService, hunit, State.unitLeft, hs, hc, hd]
  refine ⟨ho.forall (fun _ => hb) h.channels, ?_, fun d => ?_, fun d => ?_⟩
  · rw [hunit]
    exact h.once.filter _
  · rw [hmem]
    by_cases hd : d = c
    · simp [hd, hq]
    · rw [ho d hd, h.queued d, and_iff_left hd]
  · rw [hserved]
    by_cases hd : d = c
    · simp [hd, ht]
    · rw [ho d hd, ← h.served d]
      simp [hd]

/-- `u` comes of `s` when channel `c` leaves the Trial Unit, if it is there, and what it stores and
is configured to stands. -/
structure State.Leaves (c : Channel) (s u : State) : Prop where
  rest : u = { s with chans := u.chans, trial := u.trial, notices := u.notices }
  others : u.OthersAs s c
  unit : s.Blocks → u.trial = s.unitLeft c
  service : ∀ t, u.trial.service = some t → s.trial.service = some t
  notices : s.NoticeLaw → u.NoticeLaw
  config : (u.chan c).config = (s.chan c).config
  store : (u.chan c).store = (s.chan c).store
  blocks : s.Blocks → (u.chan c).Blocks
  holding : s.Blocks → (u.chan c).openHolding = (s.chan c).openHolding
  queued : (u.chan c).ctl.lock ≠ .queued
  trial : (u.chan c).ctl.lock ≠ .trial
  mode : s.Blocks → (s.chan c).ModeLaw → (u.chan c).ModeLaw
  profile : s.ProfileLaw → (u.chan c).ProfileLaw
  period : s.Blocks → s.ProfileLaw → s.PeriodLaw → (u.chan c).PeriodLaw

theorem State.Leaves.keeps {c : Channel} {s u : State} (h : State.Leaves c s u) : s.Keeps u := by
  have hrest := h.rest
  have htime : u.time = s.time := by rw [hrest]
  have hrates : u.rates = s.rates := by rw [hrest]
  have hcounter : u.leaseCounter = s.leaseCounter := by rw [hrest]
  have hpools : u.pools = s.pools := by rw [hrest]
  refine ⟨by rw [hrest], fun hl => ?_, h.notices, fun hl => ?_, fun d hf => ?_, fun d => ?_,
    fun hb d hm => ?_, fun hb => hb.leave h.others (h.unit hb) (h.blocks hb) h.queued h.trial,
    fun hb hp => ?_, fun hp => ?_, fun hb hp hc => ?_⟩
  · exact ⟨by rw [htime]; exact hl.counter, by rw [htime]; exact hl.wraps⟩
  · exact ⟨h.others.forall (p := Chan.LeaseLegal)
      (by unfold Chan.LeaseLegal; rw [h.store]; exact id) hl.leases,
      by rw [hcounter]; exact hl.counter⟩
  · by_cases hd : d = c
    · subst hd
      exact hf.congr h.config h.store
    · rwa [h.others d hd]
  · by_cases hd : d = c
    · rw [hd, h.config]
    · rw [h.others d hd]
  · by_cases hd : d = c
    · subst hd
      exact h.mode hb hm
    · rwa [h.others d hd]
  · have hsum := State.sumChans_othersAs h.others fun k => k.store.held
    have hsum' := State.sumChans_othersAs h.others Chan.descriptorsHeld
    obtain ⟨hpooled, hdesc⟩ :=
      Chan.Pooled.congr h.store (h.holding hb) ⟨hp.held c, hp.dropped c⟩
    simp only [h.store, hdesc] at hsum hsum'
    have := hp.segments
    have := hp.descriptors
    exact ⟨h.others.forall (p := fun k => k.store.held = k.segmentsHeld) (fun _ => hpooled.held)
        hp.held, h.others.forall (fun _ => hpooled.dropped) hp.dropped, by rw [hpools]; omega,
      by rw [hpools]; omega⟩
  · exact ⟨by rw [hrates]; exact hp.rates, h.others.forall (fun _ => h.profile hp) hp.profiles,
      fun t ht => hp.trial t (h.service t ht)⟩
  · exact ⟨h.others.forall (fun _ => h.period hb hp hc) hc.channels,
      fun t ht => hc.trial t (h.service t ht)⟩

/-! ### The work of a state undone (R21, R24) -/

/-- The channel once the work of its lock state is undone, its place in the unit apart. -/
def Chan.idled (k : Chan) : Chan :=
  match k.ctl.lock with
  | .off | .quiet | .failed | .queued | .trial => k
  | .gather => { k with ctl := { k.ctl with gatherTimer := none } }
  | .align | .locked | .degraded => k.leaveDecoding

/-- R42, R44, R78: with its window stopped it is the channel that the statements speak of. -/
theorem Chan.idled_windowStopped {k : Chan} (hb : k.Blocks) :
    { k.idled with ctl := k.idled.ctl.windowStopped } = k.workUndone := by
  have hnone {o : Option Nat} {p : Prop} (ho : o.isSome = true → p) (hp : ¬p) : o = none := by
    rw [← Option.not_isSome_iff_eq_none]
    exact mt ho hp
  have hgather (h : k.ctl.lock ≠ .gather) := hnone hb.gatherTimer h
  have hhold (h : k.ctl.lock ≠ .degraded) := hnone hb.holdoverTimer.1 h
  have hdormant (h : k.ctl.lock.decoding = false) :=
    hnone hb.dormantTimer (by rw [h]; exact Bool.false_ne_true)
  have hstop (h : k.ctl.lock.decoding = false) := hb.sampler.2 h
  obtain ⟨config, given, working, pendingUpdate, ctl, sampler, framer, store, stats⟩ := k
  obtain ⟨lock, retryCount, windowChars, windowErrors, windowLength, gatherTarget, gatherQuietMs,
    gatherTimer, holdoverTimer, dormantTimer, report⟩ := ctl
  obtain ⟨accepted, pendingChange, quietReference, lastCapture, ring, idleLevel, trackedPeriod,
    trackedOffset, decode, edges, offsetCount, offsetSum⟩ := sampler
  cases lock <;>
    simp_all [Chan.idled, Chan.workUndone, Controller.windowStopped, LockState.decoding,
      Chan.leaveDecoding, Sampler.stopped, framerIdle]

/-- R99: a channel that is not decoding has no record open. -/
theorem Chan.Blocks.openRecord?_eq_none {k : Chan} (hb : k.Blocks)
    (h : k.ctl.lock.decoding = false) : k.openRecord? = none :=
  Chan.openRecord?_eq_none.2 fun r hr => by
    rw [(FramerState.follows_rest h).1 hb.framer] at hr
    exact FramerState.noConfusion hr

/-- A write of one channel that neither reads nor writes the trial report and the statistics. -/
def Chan.ReportBlind (g : Chan → Chan) : Prop :=
  ∀ k report stats, g { k with ctl := { k.ctl with report := report }, stats := stats } =
    { g k with ctl := { (g k).ctl with report := report }, stats := stats }

/-- What giving up reads and writes a report-blind write of the channel leaves alone. -/
theorem giveUpTrial_modChan {s : State} {c : Channel} {g : Chan → Chan}
    (hg : Chan.ReportBlind g) (hstats : ∀ k, (g k).stats = k.stats) :
    (s.giveUpTrial c).modChan c g = (s.modChan c g).giveUpTrial c := by
  rcases hs : s.inService c with _ | _
  · rw [giveUpTrial_notServed hs, giveUpTrial_notServed (s := s.modChan c g) hs]
    rfl
  · rcases ht : s.trial.service with _ | t
    · simp [State.inService, ht] at hs
    · have hc : t.channel = c := by simpa [State.inService, ht] using hs
      rw [giveUpTrial_served ht hc, giveUpTrial_served (s := s.modChan c g) ht hc]
      have hwrites : (s.modChan c fun k =>
          { k with
            ctl :=
              { k.ctl with
                report := some (t.report { outcome := .abandoned, chosen := none } s.deviceNow) }
            stats :=
              { k.stats with
                abandonedTrials := count32 k.stats.abandonedTrials 1 } }).modChan c g =
          (s.modChan c g).modChan c fun k =>
            { k with
              ctl :=
                { k.ctl with
                  report := some (t.report { outcome := .abandoned, chosen := none } s.deviceNow) }
              stats :=
                { k.stats with abandonedTrials := count32 k.stats.abandonedTrials 1 } } := by
        rw [State.modChan_modChan, State.modChan_modChan]
        exact State.modChan_congr (by rw [hg, hstats])
      exact congrArg (fun u : State => { u with trial :=
        { service := none, queue := s.trial.queue.filter fun d => decide (d ≠ c) } }) hwrites

/-- The work of a state in which nothing decodes, undone but for the place in the unit, is one write
of the channel. -/
theorem State.modChan_windowStopped {s : State} {c : Channel} (hk : (s.chan c).Blocks)
    (g : Chan → Chan) :
    (s.modChan c fun k => g { k.idled with ctl := k.idled.ctl.windowStopped }) =
      s.modChan c fun k => g k.workUndone :=
  State.modChan_congr (by rw [Chan.idled_windowStopped hk])

/-- R21, R24: the work of the state undone and the channel then written by `g`, its window stopped:
the open record is closed with cause HALT, the channel written, and its place in the unit given
up. -/
theorem undoWork_modChan {s : State} (hb : s.Blocks) {c : Channel} {g : Chan → Chan}
    (hg : Chan.ReportBlind g) (hstats : ∀ k, (g k).stats = k.stats) :
    (s.undoWork c).modChan c (fun k => g { k with ctl := k.ctl.windowStopped }) =
      ((s.closing c .halt s.deviceNow).modChan c fun k => g k.workUndone).giveUpTrial c := by
  have hk := hb.channels c
  have hrest (h : (s.chan c).ctl.lock.decoding = false) :
      s.closing c .halt s.deviceNow = s :=
    State.closing_of_none (hk.openRecord?_eq_none h) _ _
  have hout (hq : (s.chan c).ctl.lock ≠ .queued) (ht : (s.chan c).ctl.lock ≠ .trial)
      {u : State} (h : u.trial = s.trial) : u.giveUpTrial c = u := by
    have hs : u.inService c = false := by
      rw [State.inService, h, ← Bool.not_eq_true]
      exact mt (hb.served c).1 ht
    rw [giveUpTrial_notServed hs, State.leaveQueue, List.filter_eq_self.2 fun d hd => ?_]
    rw [h] at hd
    rw [decide_eq_true_eq]
    rintro rfl
    exact hq ((hb.queued d).1 hd)
  unfold State.undoWork
  split
  case h_5 h | h_6 h =>
    rw [hrest (by rw [h]; rfl), ← State.modChan_windowStopped hk]
    refine (giveUpTrial_modChan (g := fun k => g { k with ctl := k.ctl.windowStopped })
      (fun k report stats => hg { k with ctl := k.ctl.windowStopped } report stats)
      fun k => hstats _).trans (congrArg (State.giveUpTrial · c) ?_)
    exact State.modChan_congr (by simp only [Chan.idled, h])
  case h_4 h =>
    rw [hrest (by rw [h]; rfl), hout (by rw [h]; decide) (by rw [h]; decide) (by rfl),
      ← State.modChan_windowStopped hk, State.modCtl_eq, State.modChan_modChan]
    exact State.modChan_congr (by simp only [Chan.idled, h])
  case h_7 h | h_8 h | h_9 h =>
    have hclosed := (s.workOn_closing c .halt s.deviceNow)
    rw [closeRecord_eq, hout (by rw [h]; decide) (by rw [h]; decide)
        (by rw [State.modChan_trial, hclosed.rest]),
      ← State.modChan_windowStopped (hclosed.chan.blocks hk), State.modChan_modChan]
    exact State.modChan_congr (by simp only [Chan.idled, ctl_closing, h])
  all_goals
    rename_i h
    rw [hrest (by rw [h]; rfl), hout (by rw [h]; decide) (by rw [h]; decide) (by rfl),
      ← State.modChan_windowStopped hk]
    exact State.modChan_congr (by simp only [Chan.idled, h])

end Sys2Proof.Machine
end

section
/-! ACQUIRE, the entry into OFF and the outcomes of a trial keep the laws of the device. -/

namespace Sys2Proof.Machine

/-! ### ACQUIRE and OFF (R21, R24) -/

/-- R42: the channel with the work of its state undone and its window stopped. -/
def Chan.settledDown (k : Chan) : Chan := { k.idled with ctl := k.idled.ctl.windowStopped }

/-- What undoing the work of a state leaves of the channel. -/
theorem Chan.settledDown_kept (k : Chan) :
    k.settledDown.config = k.config ∧ k.settledDown.given = k.given ∧
      k.settledDown.working = k.working ∧ k.settledDown.store = k.store := by
  unfold Chan.settledDown Chan.idled
  split <;> exact ⟨rfl, rfl, rfl, rfl⟩

/-- R42, R78, R88, R102: with its work undone a channel has its framer in IDLE, its sampler stopped
and no timer running. -/
theorem Chan.Blocks.settledDown {k : Chan} (hb : k.Blocks) :
    k.settledDown.framer.state = .idle ∧ k.settledDown.framer.gapTimer = none ∧
      k.settledDown.sampler.decode = .stopped ∧ k.settledDown.ctl.gatherTimer = none ∧
      k.settledDown.ctl.holdoverTimer = none ∧ k.settledDown.ctl.dormantTimer = none := by
  rw [Chan.settledDown, Chan.idled_windowStopped hb]
  unfold Chan.workUndone
  dsimp only
  split
  · exact ⟨rfl, rfl, rfl, rfl, rfl, rfl⟩
  · rename_i h
    have hidle := (FramerState.follows_rest (Bool.not_eq_true _ ▸ h)).1 hb.framer
    exact ⟨hidle, by
      rw [← Option.not_isSome_iff_eq_none]
      exact fun hg => hb.gapTimer hg hidle, rfl, rfl, rfl, rfl⟩

/-- A write that takes a channel whose work is undone to QUIET or OFF. -/
structure Chan.Rests (g : Chan → Chan) : Prop where
  config : ∀ k, (g k).config = k.config
  store : ∀ k, (g k).store = k.store
  framer : ∀ k, (g k).framer = k.framer
  stats : ∀ k, (g k).stats = k.stats
  decode : ∀ k, (g k).sampler.decode = k.sampler.decode
  lock : ∀ k, (g k).ctl.lock = .quiet ∨ (g k).ctl.lock = .off
  gatherTimer : ∀ k, k.ctl.gatherTimer = none → (g k).ctl.gatherTimer = none
  holdoverTimer : ∀ k, (g k).ctl.holdoverTimer = k.ctl.holdoverTimer
  dormantTimer : ∀ k, (g k).ctl.dormantTimer = k.ctl.dormantTimer
  blind : Chan.ReportBlind g

/-- A channel without an open record whose work is undone and that comes to rest leaves the unit, if
it is there. -/
theorem State.leaves_undone {s u : State} {c : Channel} {g : Chan → Chan} (hg : Chan.Rests g)
    (hu : u = (s.modChan c fun k => g k.settledDown).giveUpTrial c ∨
      (u = (s.modChan c fun k => g k.settledDown) ∧ (s.chan c).ctl.lock ≠ .queued ∧
        (s.chan c).ctl.lock ≠ .trial))
    (hopen : s.Blocks → (s.chan c).openRecord? = none)
    (hmode : s.Blocks → (s.chan c).ModeLaw → (g (s.chan c).settledDown).ModeLaw)
    (hprofile : s.ProfileLaw → (g (s.chan c).settledDown).ProfileLaw)
    (hrate : (s.chan c).PeriodLaw → (g (s.chan c).settledDown).working.confirmed = true →
      (g (s.chan c).settledDown).working.nominal ≠ 0) : State.Leaves c s u := by
  obtain ⟨f, unit, h, ⟨report, abandoned, hf⟩, hunit, hservice⟩ : ∃ f unit,
      u = { s.modChan c f with trial := unit } ∧
      (∃ report abandoned, f (s.chan c) =
        { g (s.chan c).settledDown with
          ctl := { (g (s.chan c).settledDown).ctl with report := report }
          stats :=
            { (g (s.chan c).settledDown).stats with abandonedTrials := abandoned } }) ∧
      (s.Blocks → unit = s.unitLeft c) ∧ ∀ t, unit.service = some t → s.trial.service = some t := by
    rcases hu with rfl | ⟨rfl, hq, ht⟩
    · obtain ⟨report, abandoned, h⟩ := giveUpTrial_eq (s.modChan c fun k => g k.settledDown) c
      rw [State.modChan_modChan] at h
      refine ⟨_, s.unitLeft c, h, ⟨report, abandoned, by rfl⟩, fun _ => rfl, fun t ht => ?_⟩
      · simp only [State.unitLeft] at ht
        split at ht
        · simp at ht
        · exact ht
    · refine ⟨fun k => g k.settledDown, s.trial, rfl, ⟨(g (s.chan c).settledDown).ctl.report,
        (g (s.chan c).settledDown).stats.abandonedTrials, rfl⟩, fun hb => ?_, fun _ => id⟩
      obtain ⟨report, abandoned, h⟩ := giveUpTrial_eq s c
      rw [hb.giveUpTrial hq ht] at h
      exact congrArg State.trial h
  have hself : u.chan c =
      { g (s.chan c).settledDown with
        ctl := { (g (s.chan c).settledDown).ctl with report := report }
        stats := { (g (s.chan c).settledDown).stats with abandonedTrials := abandoned } } := by
    rw [← hf, h]
    exact State.chan_modChan_same s c f
  have hrest : (g (s.chan c).settledDown).ctl.lock.decoding = false := by
    rcases hg.lock (s.chan c).settledDown with hl | hl <;> rw [hl] <;> rfl
  obtain ⟨hconfig, -, -, hstore⟩ := (s.chan c).settledDown_kept
  have hblocks (hb : s.Blocks) : (g (s.chan c).settledDown).framer.state = .idle ∧
      (g (s.chan c).settledDown).sampler.decode = .stopped ∧ (u.chan c).Blocks := by
    obtain ⟨hidle, hgap, hdecode, hgather, hhold, hdormant⟩ := (hb.channels c).settledDown
    rw [hself, hg.framer, hg.decode]
    exact ⟨hidle, hdecode, Chan.blocks_of_rest (by rw [hg.framer]; exact hidle)
      (by rw [hg.framer]; exact hgap) ((hg.decode _).trans hdecode) hrest
      (hg.gatherTimer _ hgather) ((hg.holdoverTimer _).trans hhold)
      ((hg.dormantTimer _).trans hdormant)⟩
  refine
    { rest := by rw [h]; rfl
      others := fun d hd => by rw [h]; exact State.chan_modChan_other hd s f
      unit := fun hb => by rw [h]; exact hunit hb
      service := fun t ht => hservice t (by rwa [h] at ht)
      notices := fun hn => hn.congr (by rw [h]; rfl)
      config := by rw [hself]; exact (hg.config _).trans hconfig
      store := by rw [hself]; exact (hg.store _).trans hstore
      blocks := fun hb => (hblocks hb).2.2
      holding := fun hb => ?_
      queued := by
        rw [hself]
        rcases hg.lock (s.chan c).settledDown with hl | hl <;> simp [hl]
      trial := by
        rw [hself]
        rcases hg.lock (s.chan c).settledDown with hl | hl <;> simp [hl]
      mode := fun hb hm => by rw [hself]; exact hmode hb hm
      profile := fun hp => by rw [hself]; exact (hprofile hp).congr rfl rfl
      period := fun hb hp hc => ?_ }
  · rw [Chan.openHolding_eq_none (Chan.openRecord?_eq_none.1 (hopen hb)),
      Chan.openHolding_eq_none (by rw [hself]; simp [(hblocks hb).1])]
  · rw [hself]
    refine ⟨hrate (hc.channels c), fun hx => ?_, fun t per hx => ?_⟩
    · exact absurd (hrest.symm.trans hx) Bool.false_ne_true
    · simp [(hblocks hb).2.1] at hx

/-- R99: with the record closed, none is open. -/
theorem openRecord?_closing (s : State) (c : Channel) (cause : Cause) (t : BitVec 32) :
    ((s.closing c cause t).chan c).openRecord? = none :=
  Chan.openRecord?_eq_none.2 (framerState_closing_ne s c cause t)

/-- R21, R24: what undoing the work of a state and a further write make of the device, by steps: the
record closed, and the channel out of the unit. -/
theorem undoWork_steps (s : State) (c : Channel) {g : Chan → Chan} (hg : Chan.Rests g) :
    ∃ w, s.WorkOn c w ∧ (w.Blocks → (w.chan c).openRecord? = none) ∧
      (w.chan c).ctl = (s.chan c).ctl ∧
      ((s.undoWork c).modChan c (fun k => g { k with ctl := k.ctl.windowStopped }) =
          (w.modChan c fun k => g k.settledDown).giveUpTrial c ∨
        ((s.undoWork c).modChan c (fun k => g { k with ctl := k.ctl.windowStopped }) =
            (w.modChan c fun k => g k.settledDown) ∧ (s.chan c).ctl.lock ≠ .queued ∧
          (s.chan c).ctl.lock ≠ .trial)) := by
  have hrest (h : (s.chan c).ctl.lock.decoding = false) (hb : s.Blocks) :=
    (hb.channels c).openRecord?_eq_none h
  unfold State.undoWork
  split
  case h_5 h | h_6 h =>
    refine ⟨s, .refl c s, hrest (by rw [h]; rfl), rfl, .inl ?_⟩
    refine (giveUpTrial_modChan (g := fun k => g { k with ctl := k.ctl.windowStopped })
      (fun k report stats => hg.blind { k with ctl := k.ctl.windowStopped } report stats)
      fun k => hg.stats _).trans (congrArg (State.giveUpTrial · c) ?_)
    exact State.modChan_congr (by simp only [Chan.settledDown, Chan.idled, h])
  case h_4 h =>
    refine ⟨s, .refl c s, hrest (by rw [h]; rfl), rfl,
      .inr ⟨?_, by rw [h]; decide, by rw [h]; decide⟩⟩
    rw [State.modCtl_eq, State.modChan_modChan]
    exact State.modChan_congr (by simp only [Chan.settledDown, Chan.idled, h])
  case h_7 h | h_8 h | h_9 h =>
    refine ⟨s.closing c .halt s.deviceNow, s.workOn_closing c .halt s.deviceNow,
      fun _ => openRecord?_closing .., ctl_closing ..,
      .inr ⟨?_, by rw [h]; decide, by rw [h]; decide⟩⟩
    rw [closeRecord_eq, State.modChan_modChan]
    exact State.modChan_congr (by simp only [Chan.settledDown, Chan.idled, ctl_closing, h])
  all_goals
    rename_i h
    refine ⟨s, .refl c s, hrest (by rw [h]; rfl), rfl,
      .inr ⟨?_, by rw [h]; decide, by rw [h]; decide⟩⟩
    exact State.modChan_congr (by simp only [Chan.settledDown, Chan.idled, h])

/-- R13: a whole copy is legal, and not confirmed. -/
theorem Chan.ProfileLaw.wholeCopy {k : Chan} (h : k.ProfileLaw) {rates : Vector Nat 16}
    (hr : ∀ r ∈ rates.toList, rateEntryValid r = true) : (k.wholeCopy rates).ProfileLaw := by
  have hg := Bool.and_eq_true_iff.1 h.given
  exact ⟨h.given, hg.1, hr _ (by simp [Chan.wholeCopy, WorkingProfile.written]), hg.2⟩

theorem Chan.rests_freshQuiet (rates : Vector Nat 16) (now : Nat) :
    Chan.Rests fun k => k.freshQuiet rates now := by
  constructor
  case lock => exact fun _ => .inl rfl
  case blind => exact fun _ _ _ => rfl
  all_goals intros; rfl

/-- R21: OFF entered by a channel whose work is undone. -/
def Chan.enterOff (k : Chan) : Chan :=
  { k with sampler := k.sampler.clearCapture, ctl := { k.ctl with lock := .off } }

theorem Chan.rests_enterOff : Chan.Rests Chan.enterOff := by
  constructor
  case lock => exact fun _ => .inr rfl
  case gatherTimer => exact fun _ => id
  case blind => exact fun _ _ _ => rfl
  all_goals intros; rfl

theorem State.keeps_takeHeadIf (s : State) (freed : Bool) : s.Keeps (s.takeHeadIf freed) := by
  unfold State.takeHeadIf
  split
  · exact s.keeps_takeHead
  · exact .refl s

/-- Undoing the work of a state leaves the time and the rates alone. -/
theorem undoWork_time_rates (s : State) (c : Channel) :
    (s.undoWork c).time = s.time ∧ (s.undoWork c).rates = s.rates := by
  unfold State.undoWork
  split
  case h_5 | h_6 =>
    obtain ⟨report, abandoned, h⟩ := giveUpTrial_eq s c
    rw [h]
    exact ⟨rfl, rfl⟩
  case h_7 | h_8 | h_9 =>
    rw [(State.workOn_closeRecord s c .halt s.deviceNow).rest]
    exact ⟨rfl, rfl⟩
  all_goals exact ⟨rfl, rfl⟩

/-- R24: ACQUIRE outside OFF. -/
theorem State.keeps_acquireChannel {s : State} {c : Channel} (h : (s.chan c).ctl.lock ≠ .off) :
    s.Keeps (s.acquireChannel c) := by
  unfold State.acquireChannel
  dsimp only
  refine .trans ?_ (State.keeps_takeHeadIf ..)
  have hrest := undoWork_time_rates s c
  simp only [State.now, hrest.1, hrest.2]
  obtain ⟨w, hw, hopen, hctl, hcases⟩ := undoWork_steps s c
    (Chan.rests_freshQuiet s.rates s.time.ticks)
  have hrates : w.rates = s.rates := by rw [hw.rest]
  refine hw.keeps.trans (State.Leaves.keeps (c := c) ?_)
  obtain ⟨hconfig, hgiven, hworking, hstore⟩ := (w.chan c).settledDown_kept
  refine State.leaves_undone (Chan.rests_freshQuiet s.rates s.time.ticks)
    (by rw [hctl]; exact hcases) hopen (fun hb hm => ?_) (fun hp => ?_)
    fun _ hx => (Bool.false_ne_true hx).elim
  · exact iff_of_false (by simp [Chan.freshQuiet, Chan.enterQuiet]) fun hx =>
      absurd (hm.2 (hconfig ▸ hx)) (by rw [hctl]; exact h)
  · exact (Chan.ProfileLaw.wholeCopy ((hp.profiles c).congr hgiven hworking)
      (by rw [← hrates]; exact hp.rates)).congr rfl rfl

/-- R21: the work undone and OFF entered, before the unit takes its next head. -/
theorem State.keeps_enterOff {s : State} {c : Channel} (h : (s.chan c).config.mode = .off) :
    s.Keeps ((s.undoWork c).modChan c fun k =>
        Chan.enterOff { k with ctl := k.ctl.windowStopped }) ∧
      (((s.undoWork c).modChan c fun k =>
        Chan.enterOff { k with ctl := k.ctl.windowStopped }).chan c).ctl.lock = .off := by
  refine ⟨?_, by simp [Chan.enterOff]⟩
  obtain ⟨w, hw, hopen, hctl, hcases⟩ := undoWork_steps s c Chan.rests_enterOff
  refine hw.keeps.trans (State.Leaves.keeps (c := c) ?_)
  obtain ⟨hconfig, hgiven, hworking, hstore⟩ := (w.chan c).settledDown_kept
  refine State.leaves_undone Chan.rests_enterOff
    (by rw [hctl]; exact hcases) hopen (fun hb hm => ?_) (fun hp => ?_) fun hc hx => ?_
  · exact iff_of_true rfl (by rw [Chan.rests_enterOff.config, hconfig, hw.chan.config, h])
  · exact (hp.profiles c).congr hgiven hworking
  · have hw' : (w.chan c).settledDown.enterOff.working = (w.chan c).working := hworking
    rw [hw'] at hx ⊢
    exact hc.rate hx

/-- R21: CONFIGURE mode OFF, the record of mode OFF written. -/
theorem State.keeps_offEntry {s : State} {c : Channel} (h : (s.chan c).config.mode = .off) :
    s.Keeps (s.offEntry c) := by
  unfold State.offEntry
  exact (State.keeps_enterOff h).1.trans (State.keeps_takeHeadIf ..)

/-- R21: afterwards the channel is in OFF. -/
theorem State.modeLaw_offEntry {s : State} {c : Channel} (h : (s.chan c).config.mode = .off)
    (hb : s.Blocks) : ((s.offEntry c).chan c).ModeLaw := by
  obtain ⟨hkeeps, hlock⟩ := State.keeps_enterOff h
  unfold State.offEntry
  refine (State.keeps_takeHeadIf _ _).modes (hkeeps.blocks hb) c (iff_of_true hlock ?_)
  rw [hkeeps.configs, h]

/-! ### The outcomes of a trial (R14, R29, R30, R66) -/

/-- R29: the channel with the candidate that fits written, its report stored and the fit counted. -/
def Chan.fitWritten (k : Chan) (best : Candidate) (r : TrialReport) : Chan :=
  { k.writeFit best with
    ctl := { k.ctl with report := some r }
    stats := { k.stats with fits := count32 k.stats.fits 1 } }

/-- R34: the channel at ALIGN entry, its boundary hunt begun. -/
def Chan.aligning (k : Chan) (now : Nat) (dormant : Option Nat) : Chan :=
  { k.alignSetUp now dormant with
    framer := { (k.alignSetUp now dormant).framer with state := .aligning, gapTimer := none } }

/-- R35: the boundary found at once where the framing has it so. -/
def State.boundaryIfAtOnce (s : State) (c : Channel) : State :=
  if (s.chan c).working.framing.boundaryAtOnce then s.boundaryFound c else s

/-- R15: PROFILE posted when the epoch has changed. -/
def State.profilePosted (s : State) (c : Channel) (before : BitVec 8) (w : WorkingProfile) : State :=
  if w.epoch = before then s else s.postChan c .profile (.profile w.epoch w.line)

theorem beginHunt_eq (s : State) (c : Channel) :
    s.beginHunt c =
      (s.modChan c fun k =>
        { k with framer :=
          { k.framer with state := .aligning, gapTimer := none } }).boundaryIfAtOnce c := rfl

/-- R34: ALIGN entry, as one write of the channel and the boundary. -/
theorem enterAlign_eq (s : State) (c : Channel) :
    s.enterAlign c =
      (s.modChan c fun k => k.aligning s.now (s.dormantStart c)).boundaryIfAtOnce c := by
  rw [State.enterAlign, beginHunt_eq, State.modChan_modChan]
  rfl

/-- R29: a FIT outcome, as one write of the channel, its post and the boundary. -/
theorem trialFit_eq (s : State) (c : Channel) (r : TrialReport) (best : Candidate) :
    s.trialFit c r best =
      ((s.modChan c fun k =>
          (k.fitWritten best r).aligning s.now (s.dormantStart c)).profilePosted c
        (s.chan c).working.epoch ((s.chan c).writeFit best).working).boundaryIfAtOnce c := by
  have hwritten : s.trialFit c r best =
      ((s.modChan c fun k => k.fitWritten best r).profilePosted c (s.chan c).working.epoch
        ((s.modChan c fun k => k.fitWritten best r).chan c).working).enterAlign c := rfl
  rw [hwritten, enterAlign_eq, State.chan_modChan_same]
  refine congrArg (State.boundaryIfAtOnce · c) ?_
  have hread : (s.modChan c fun k => k.fitWritten best r).dormantStart c = s.dormantStart c := by
    simp only [State.dormantStart, State.chan_modChan_same]
    rfl
  unfold State.profilePosted
  split
  · rw [if_pos ‹_›, hread, State.modChan_modChan]
    rfl
  · rw [if_neg ‹_›, postChan_modChan, State.modChan_modChan]
    exact congrArg (fun o => (s.modChan c fun k =>
      (k.fitWritten best r).aligning s.now o).postChan c .profile _) hread

theorem State.workOn_boundaryIfAtOnce {s : State} {c : Channel}
    (h : (s.chan c).framer.state = .aligning) : s.WorkOn c (s.boundaryIfAtOnce c) := by
  unfold State.boundaryIfAtOnce
  split
  · exact State.workOn_boundaryFound h
  · exact .refl c s

theorem State.workOn_profilePosted (s : State) (c : Channel) (before : BitVec 8)
    (w : WorkingProfile) : s.WorkOn c (s.profilePosted c before w) := by
  unfold State.profilePosted
  split
  · exact .refl c s
  · exact workOn_postChan c c _ rfl

@[simp] theorem chan_profilePosted (s : State) (c d : Channel) (before : BitVec 8)
    (w : WorkingProfile) : (s.profilePosted c before w).chan d = s.chan d := by
  unfold State.profilePosted
  split <;> rfl

/-- R17: a pending framing update is legal when it comes. -/
theorem Chan.aligning_working (k : Chan) (now : Nat) (dormant : Option Nat) :
    (k.aligning now dormant).working.line = k.working.line ∧
      (k.aligning now dormant).working.nominal = k.working.nominal ∧
      (k.aligning now dormant).working.confirmed = k.working.confirmed ∧
      ((k.aligning now dormant).working.framing = k.working.framing ∨
        (k.aligning now dormant).working.framing = k.given.framing) := by
  unfold Chan.aligning Chan.alignSetUp
  dsimp only
  split
  · exact ⟨rfl, rfl, rfl, .inr rfl⟩
  · exact ⟨rfl, rfl, rfl, .inl rfl⟩

/-- What ALIGN entry leaves of the channel, and what it sets. -/
theorem Chan.aligning_kept (k : Chan) (now : Nat) (dormant : Option Nat) :
    (k.aligning now dormant).config = k.config ∧ (k.aligning now dormant).given = k.given ∧
      (k.aligning now dormant).store = k.store ∧
      (k.aligning now dormant).framer.state = .aligning ∧
      (k.aligning now dormant).framer.gapTimer = none ∧
      (k.aligning now dormant).sampler.decode = .hunt now ∧
      (k.aligning now dormant).sampler.trackedPeriod = nominalPeriod k.working.nominal ∧
      (k.aligning now dormant).ctl.lock = .align ∧
      (k.aligning now dormant).ctl.gatherTimer = k.ctl.gatherTimer ∧
      (k.aligning now dormant).ctl.holdoverTimer = k.ctl.holdoverTimer := by
  unfold Chan.aligning Chan.alignSetUp
  dsimp only
  split <;> exact ⟨rfl, rfl, rfl, rfl, rfl, rfl, rfl, rfl, rfl, rfl⟩

/-- R88, R42: what is at rest in TRIAL. -/
theorem State.Blocks.trial_rest {s : State} (hb : s.Blocks) {c : Channel}
    (h : s.inService c = true) :
    (s.chan c).ctl.lock = .trial ∧ (s.chan c).framer.state = .idle ∧
      (s.chan c).framer.gapTimer = none ∧ (s.chan c).sampler.decode = .stopped ∧
      (s.chan c).ctl.gatherTimer = none ∧ (s.chan c).ctl.holdoverTimer = none ∧
      (s.chan c).ctl.dormantTimer = none := by
  have hl := (hb.served c).1 h
  have hk := hb.channels c
  have hnone {o : Option Nat} {p : Prop} (ho : o.isSome = true → p) (hp : ¬p) : o = none := by
    rw [← Option.not_isSome_iff_eq_none]
    exact mt ho hp
  have hidle := (FramerState.follows_rest (by rw [hl]; rfl)).1 hk.framer
  refine ⟨hl, hidle, ?_, hk.sampler.2 (by rw [hl]; rfl), hnone hk.gatherTimer (by simp [hl]),
    hnone hk.holdoverTimer.1 (by simp [hl]), hnone hk.dormantTimer (by simp [hl, LockState.decoding])⟩
  rw [← Option.not_isSome_iff_eq_none]
  exact fun hg => hk.gapTimer hg hidle

/-- The channel in service leaves the unit as its trial ends, its blocks in order. -/
theorem State.leaves_service {s : State} {t : Trial} (hs : s.trial.service = some t)
    {f : Chan → Chan}
    (hconfig : (f (s.chan t.channel)).config = (s.chan t.channel).config)
    (hstore : (f (s.chan t.channel)).store = (s.chan t.channel).store)
    (hblocks : s.Blocks → (f (s.chan t.channel)).Blocks)
    (hopen : s.Blocks → ∀ r, (f (s.chan t.channel)).framer.state ≠ .inRecord r)
    (hlock : (f (s.chan t.channel)).ctl.lock = .quiet ∨ (f (s.chan t.channel)).ctl.lock = .failed ∨
      (f (s.chan t.channel)).ctl.lock = .align)
    (hprofile : s.ProfileLaw → (f (s.chan t.channel)).ProfileLaw)
    (hperiod : s.Blocks → s.ProfileLaw → s.PeriodLaw → (f (s.chan t.channel)).PeriodLaw) :
    State.Leaves t.channel s
      ({ s with trial := { s.trial with service := none } }.modChan t.channel f) := by
  have hin : s.inService t.channel = true := by simp [State.inService, hs]
  have hself : (({ s with trial := { s.trial with service := none } } : State).modChan t.channel
      f).chan t.channel = f (s.chan t.channel) := State.chan_modChan_same ..
  have hne {l : LockState} (hl : l ≠ .quiet) (hl' : l ≠ .failed) (hl'' : l ≠ .align) :
      (f (s.chan t.channel)).ctl.lock ≠ l := by
    rintro rfl
    simp_all
  refine
    { rest := rfl
      others := fun d hd => State.chan_modChan_other hd _ f
      unit := fun hb => (hb.unitLeft hin).symm
      service := fun t ht => absurd ht (by simp)
      notices := fun hn => hn.congr rfl
      config := by rw [hself]; exact hconfig
      store := by rw [hself]; exact hstore
      blocks := fun hb => by rw [hself]; exact hblocks hb
      holding := fun hb => ?_
      queued := by rw [hself]; exact hne (by decide) (by decide) (by decide)
      trial := by rw [hself]; exact hne (by decide) (by decide) (by decide)
      mode := fun hb hm => ?_
      profile := fun hp => by rw [hself]; exact hprofile hp
      period := fun hb hp hc => by rw [hself]; exact hperiod hb hp hc }
  · rw [hself, Chan.openHolding_eq_none (hopen hb), Chan.openHolding_eq_none]
    simp [(hb.trial_rest hin).2.1]
  · rw [hself]
    refine iff_of_false (hne (by decide) (by decide) (by decide)) fun hx => ?_
    have := hm.2 (hconfig ▸ hx)
    rw [(hb.trial_rest hin).1] at this
    exact LockState.noConfusion this

/-- R29: a FIT outcome keeps the laws. -/
theorem State.keeps_trialFit {s : State} {t : Trial} (hs : s.trial.service = some t)
    {best : Candidate} {v : Verdict} (hv : t.verdict = some v) (hbest : v.chosen = some best)
    (r : TrialReport) :
    s.Keeps ({ s with trial := { s.trial with service := none } }.trialFit t.channel r best) := by
  have hin : s.inService t.channel = true := by simp [State.inService, hs]
  rw [trialFit_eq]
  obtain ⟨hc, hg, hst, hfs, hfg, hd, htp, hl, hgather, hhold⟩ := Chan.aligning_kept
    ((s.chan t.channel).fitWritten best r) s.now (s.dormantStart t.channel)
  obtain ⟨hline, hnominal, hconf, hframing⟩ := Chan.aligning_working
    ((s.chan t.channel).fitWritten best r) s.now (s.dormantStart t.channel)
  have hleaves := State.leaves_service hs
    (f := fun k => (k.fitWritten best r).aligning s.now (s.dormantStart t.channel)) hc hst
    (fun hb => ?_) (fun _ r => by simp [hfs]) (.inr (.inr hl)) (fun hp => ?_)
    fun hb hp hperiod => ?_
  · refine hleaves.keeps.trans (.trans (State.workOn_profilePosted ..).keeps
      (State.workOn_boundaryIfAtOnce ?_).keeps)
    rw [chan_profilePosted, State.chan_modChan_same]
    exact hfs
  · obtain ⟨hlock, hidle, hgap, hdec, hg0, hh0, hd0⟩ := hb.trial_rest hin
    refine ⟨by simp [hfs, hl, FramerState.follows], by simp [hfg], by simp [hd, hl, LockState.decoding],
      fun _ => hconf, ?_, ?_, fun _ => by simp [hl, LockState.decoding]⟩
    · rw [hgather, show ((s.chan t.channel).fitWritten best r).ctl.gatherTimer = none from hg0]
      simp
    · rw [hhold, hl, show ((s.chan t.channel).fitWritten best r).ctl.holdoverTimer = none from hh0]
      simp
  · obtain ⟨hlegal, hrate⟩ := (hp.trial t hs).chosen v best hv hbest
    have hk := hp.profiles t.channel
    refine ⟨by rw [hg]; exact hk.given, by rw [hline]; exact hlegal, by rw [hnominal]; exact hrate, ?_⟩
    rcases hframing with h | h <;> rw [h]
    · exact hk.framing
    · exact (Bool.and_eq_true_iff.1 hk.given).2
  · have h0 := (hperiod.trial t hs).chosen v best hv hbest
    have hrate := ((hp.trial t hs).chosen v best hv hbest).2
    have hrange := periodInRange_nominalPeriod (Nat.pos_of_ne_zero h0)
      (rateEntryValid_range hrate h0).2
    refine ⟨fun _ => by rw [hnominal]; exact h0, fun _ => ?_, fun t per hx => by simp [hd] at hx⟩
    rw [hnominal, htp]
    exact hrange

/-- R30: a failing outcome keeps the laws. -/
theorem State.keeps_trialFailed {s : State} {t : Trial} (hs : s.trial.service = some t)
    (r : TrialReport) :
    s.Keeps ({ s with trial := { s.trial with service := none } }.trialFailed t.channel r) := by
  have hin : s.inService t.channel = true := by simp [State.inService, hs]
  have hleaves {f : Chan → Chan} (hkept : (f (s.chan t.channel)).config = (s.chan t.channel).config ∧
        (f (s.chan t.channel)).store = (s.chan t.channel).store ∧
        (f (s.chan t.channel)).given = (s.chan t.channel).given ∧
        (f (s.chan t.channel)).working = (s.chan t.channel).working ∧
        (f (s.chan t.channel)).framer = (s.chan t.channel).framer ∧
        (f (s.chan t.channel)).sampler.decode = (s.chan t.channel).sampler.decode)
      (htimers : ((s.chan t.channel).ctl.gatherTimer = none →
          (f (s.chan t.channel)).ctl.gatherTimer = none) ∧
        (f (s.chan t.channel)).ctl.holdoverTimer = (s.chan t.channel).ctl.holdoverTimer ∧
        (f (s.chan t.channel)).ctl.dormantTimer = (s.chan t.channel).ctl.dormantTimer)
      (hlock : (f (s.chan t.channel)).ctl.lock = .quiet ∨
        (f (s.chan t.channel)).ctl.lock = .failed) :
      s.Keeps ({ s with trial := { s.trial with service := none } }.modChan t.channel f) := by
    obtain ⟨hc, hst, hg, hw, hf, hd⟩ := hkept
    obtain ⟨hgather, hhold, hdormant⟩ := htimers
    have hrest : (f (s.chan t.channel)).ctl.lock.decoding = false := by
      rcases hlock with h | h <;> rw [h] <;> rfl
    refine (State.leaves_service hs hc hst (fun hb => ?_) (fun hb r => ?_)
      (hlock.imp_right .inl) (fun hp => (hp.profiles _).congr hg hw) fun hb hp hper => ?_).keeps
    all_goals obtain ⟨hlock, hidle, hgap, hdec, hg0, hh0, hd0⟩ := hb.trial_rest hin
    · exact Chan.blocks_of_rest (by rw [hf, hidle]) (by rw [hf, hgap]) (by rw [hd, hdec]) hrest
        (hgather hg0) (hhold.trans hh0) (hdormant.trans hd0)
    · simp [hf, hidle]
    · refine ⟨by rw [hw]; exact (hper.channels t.channel).rate, fun hx => ?_, fun t' per hx => ?_⟩
      · exact absurd (hrest.symm.trans hx) Bool.false_ne_true
      · simp [hd, hdec] at hx
  unfold State.trialFailed
  rw [retryTest_eq]
  split <;> rw [State.modChan_modChan]
  · exact hleaves ⟨rfl, rfl, rfl, rfl, rfl, rfl⟩ ⟨fun _ => rfl, rfl, rfl⟩ (.inl rfl)
  · refine .trans (hleaves ⟨rfl, rfl, rfl, rfl, rfl, rfl⟩ ⟨id, rfl, rfl⟩ (.inr rfl))
      (workOn_postChan t.channel t.channel _ rfl).keeps

/-- R66: an outcome handed back keeps the laws. -/
theorem State.keeps_handBack {s : State} {t : Trial} {v : Verdict} (hs : s.trial.service = some t)
    (hv : t.verdict = some v) : s.Keeps (s.handBack t v) := by
  unfold State.handBack
  refine .trans ?_ (State.keeps_takeHead _)
  dsimp only
  split
  · exact State.keeps_trialFit hs hv ‹_› _
  · exact State.keeps_trialFailed hs _

end Sys2Proof.Machine
end

section
/-! Every command keeps every law: the relation, the link and the requests. -/

namespace Sys2Proof.Machine

/-- `t` comes of `s` by a command: the commands waiting stand, and every law is kept, the laws that
rest on others under those. -/
structure State.Lawful (s t : State) : Prop where
  pending : t.pending = s.pending
  time : s.TimeLaw → t.TimeLaw
  reset : s.ResetLaw → t.ResetLaw
  lock : s.ResetLaw → s.LockLaw → t.LockLaw
  pool : s.ResetLaw → s.LockLaw → s.PoolLaw → t.PoolLaw
  fill : s.FillLaw → t.FillLaw
  notices : s.NoticeLaw → t.NoticeLaw
  link : s.LinkLaw → t.LinkLaw
  leases : s.LeaseLaw → t.LeaseLaw
  profile : s.ProfileLaw → t.ProfileLaw
  period : s.ResetLaw → s.LockLaw → s.ProfileLaw → s.PeriodLaw → t.PeriodLaw

theorem State.Lawful.refl (s : State) : s.Lawful s :=
  ⟨rfl, id, id, fun _ => id, fun _ _ => id, id, id, id, id, id, fun _ _ _ => id⟩

theorem State.Lawful.trans {s t u : State} (h : s.Lawful t) (h' : t.Lawful u) : s.Lawful u :=
  ⟨h'.pending.trans h.pending, h'.time ∘ h.time, h'.reset ∘ h.reset,
    fun hr hl => h'.lock (h.reset hr) (h.lock hr hl),
    fun hr hl hp => h'.pool (h.reset hr) (h.lock hr hl) (h.pool hr hl hp), h'.fill ∘ h.fill,
    h'.notices ∘ h.notices, h'.link ∘ h.link, h'.leases ∘ h.leases, h'.profile ∘ h.profile,
    fun hr hl hp hc => h'.period (h.reset hr) (h.lock hr hl) (h.profile hp) (h.period hr hl hp hc)⟩

/-- A device that runs has nothing to show of a reset. -/
theorem State.resetLaw_of_running {s : State} (h : s.resetAsserted = false) : s.ResetLaw :=
  fun hr => absurd (h.symm.trans hr) Bool.false_ne_true

/-- The law of the link speaks of the link alone. -/
theorem State.LinkLaw.congr {s t : State} (h : s.LinkLaw) (hl : t.link = s.link) : t.LinkLaw := by
  constructor <;> rw [hl]
  exacts [h.inbox, h.responses, h.cache, h.tags]

/-- What happens between the commands of the host in a running device is lawful. -/
theorem State.Keeps.lawful {s t : State} (h : s.Keeps t) (hr : s.resetAsserted = false) :
    s.Lawful t := by
  have hrest := h.rest
  have hblocks (hl : s.LockLaw) := (State.lockLaw_iff.1 hl).2
  refine ⟨by rw [hrest], h.time, fun _ => State.resetLaw_of_running (by rw [hrest]; exact hr),
    fun _ hl => State.lockLaw_iff.2 ⟨fun c =>
      h.modes (hblocks hl) c ((State.lockLaw_iff.1 hl).1 c), h.blocks (hblocks hl)⟩,
    fun _ hl => h.pool (hblocks hl), fun hf c => h.fill c (hf c), h.notices,
    fun hl => hl.congr (by rw [hrest]), h.leases, h.profile, fun _ hl => h.period (hblocks hl)⟩

theorem State.WorkOn.lawful {c : Channel} {s t : State} (h : State.WorkOn c s t)
    (hr : s.resetAsserted = false) : s.Lawful t := h.keeps.lawful hr

/-! ### The link and the notices (R142 to R150, R171 to R178) -/

/-- A change of the link and of the notice table alone. -/
theorem State.lawful_outer {s : State} (hr : s.resetAsserted = false) {l : HostLink}
    {n : NoticeUnit} (hl : s.LinkLaw → { s with link := l }.LinkLaw)
    (hn : s.NoticeLaw → { s with notices := n }.NoticeLaw) :
    s.Lawful { s with link := l, notices := n } :=
  ⟨rfl, fun h => ⟨h.counter, h.wraps⟩, fun _ => State.resetLaw_of_running hr,
    fun _ h => ⟨h.channels, h.once, h.queued, h.served⟩,
    fun _ _ h => ⟨h.held, h.dropped, h.segments, h.descriptors⟩, id, fun h => (hn h).congr rfl,
    fun h => (hl h).congr rfl, fun h => ⟨h.leases, h.counter⟩,
    fun h => ⟨h.rates, h.profiles, h.trial⟩, fun _ _ _ h => ⟨h.channels, h.trial⟩⟩

/-- A change of the link that leaves its queues no longer and its cache as it was. -/
theorem State.lawful_link {s : State} (hr : s.resetAsserted = false) {f : HostLink → HostLink}
    (hi : (f s.link).inbox.length ≤ 4 ∨ (f s.link).inbox.length ≤ s.link.inbox.length)
    (hp : (f s.link).responses.length ≤ 4 ∨
      (f s.link).responses.length ≤ s.link.responses.length)
    (hc : (f s.link).cache = s.link.cache) : s.Lawful (s.modLink f) := by
  refine State.lawful_outer hr (l := f s.link) (n := s.notices) (fun h => ?_) id
  exact ⟨hi.elim id fun hi => hi.trans h.inbox, hp.elim id fun hp => hp.trans h.responses,
    by rw [hc]; exact h.cache, by rw [hc]; exact h.tags⟩

/-- A change of the receiver alone. -/
theorem State.lawful_modReceiver {s : State} (hr : s.resetAsserted = false)
    (f : Receiver → Receiver) : s.Lawful (s.modReceiver f) :=
  State.lawful_link hr (.inr le_rfl) (.inr le_rfl) rfl

/-- A post. -/
theorem State.lawful_post {s : State} (hr : s.resetAsserted = false) {slot : Slot}
    {v : NoticeValues} (hv : slot.carries v = true) : s.Lawful (s.post slot v) :=
  (s.workOn_post 0 hv).lawful hr

theorem State.lawful_countDiscard {s : State} (hr : s.resetAsserted = false) (d : Discard) :
    s.Lawful (s.countDiscard d) := by
  unfold State.countDiscard
  split
  · exact State.lawful_post hr (by cases d <;> rfl)
  · exact .refl s

/-- R173: a complete frame finished. -/
theorem State.lawful_finishFrame {s : State} (hr : s.resetAsserted = false) :
    s.Lawful s.finishFrame := by
  unfold State.finishFrame
  refine .trans (State.lawful_modReceiver hr Receiver.rest) ?_
  have hr' : (s.modReceiver Receiver.rest).resetAsserted = false := hr
  dsimp only
  split
  · exact .refl _
  split
  · split
    · rename_i hlen
      refine State.lawful_link hr' (.inl ?_) (.inr le_rfl) rfl
      rw [List.length_append, List.length_singleton]
      exact hlen
    · exact State.lawful_countDiscard hr' _
  · exact State.lawful_countDiscard hr' _

theorem State.lawful_discardLength {s : State} (hr : s.resetAsserted = false) :
    s.Lawful s.discardLength :=
  .trans (State.lawful_modReceiver hr Receiver.rest)
    (State.lawful_countDiscard (s := s.modReceiver Receiver.rest) hr _)

theorem State.lawful_discardTimeout {s : State} (hr : s.resetAsserted = false) :
    s.Lawful s.discardTimeout :=
  .trans (State.lawful_modReceiver hr Receiver.rest)
    (State.lawful_countDiscard (s := s.modReceiver Receiver.rest) hr _)

/-! ### What leaves RESET as it is -/

theorem State.resetAsserted_countDiscard (s : State) (d : Discard) :
    (s.countDiscard d).resetAsserted = s.resetAsserted := by
  unfold State.countDiscard
  split <;> rfl

theorem State.resetAsserted_finishFrame (s : State) :
    s.finishFrame.resetAsserted = s.resetAsserted := by
  unfold State.finishFrame
  dsimp only
  split_ifs <;> simp [State.resetAsserted_countDiscard, State.modReceiver]

theorem State.resetAsserted_settleReceiver (s : State) :
    s.settleReceiver.resetAsserted = s.resetAsserted := by
  unfold State.settleReceiver
  dsimp only
  split_ifs <;> simp [State.resetAsserted_finishFrame, State.discardLength, State.discardTimeout,
    State.resetAsserted_countDiscard, State.modReceiver]

/-- R172: a byte passed to the receiver. -/
theorem State.lawful_receiveByte {s : State} (hr : s.resetAsserted = false) (b : Byte) :
    s.Lawful (s.receiveByte b) := by
  unfold State.receiveByte
  refine .trans (t := s.settleReceiver) ?_
    (State.lawful_modReceiver ((State.resetAsserted_settleReceiver s).trans hr) _)
  unfold State.settleReceiver
  dsimp only
  split
  · exact State.lawful_finishFrame hr
  split
  · exact State.lawful_discardLength hr
  split
  · exact State.lawful_discardTimeout hr
  · exact .refl s

/-! ### The transmit path -/

theorem State.lawful_sendResponse {s : State} (hr : s.resetAsserted = false) :
    s.Lawful s.sendResponse := by
  unfold State.sendResponse
  split
  · rename_i r rest h
    have hr' : (s.modLink fun l => { l with responses := rest }).resetAsserted = false := hr
    refine .trans (State.lawful_link hr (.inr le_rfl) (.inr ?_) rfl)
      (State.lawful_link hr' (.inr le_rfl) (.inr le_rfl) rfl)
    simp [h]
  · exact .refl s

/-- R149: a notice sent. -/
theorem State.lawful_sendNotice {s : State} (hr : s.resetAsserted = false) (n : Notice) :
    s.Lawful (s.sendNotice n) := by
  unfold State.sendNotice
  refine State.lawful_outer hr (fun h => ⟨h.inbox, h.responses, h.cache, h.tags⟩) fun h => ?_
  have hsub {m : Notice} (hm : m ∈ s.notices.pending.filter fun m => decide (m.slot ≠ n.slot)) :
      m ∈ s.notices.pending := (List.mem_filter.1 hm).1
  exact ⟨h.once.sublist (List.filter_sublist.map _), fun m hm => h.counts m (hsub hm),
    fun m hm => h.kinds m (hsub hm), (Nat.sub_le ..).trans h.credit⟩

theorem State.lawful_arbiterDecide {s : State} (hr : s.resetAsserted = false) :
    s.Lawful s.arbiterDecide := by
  unfold State.arbiterDecide
  split
  · split
    · split
      · exact State.lawful_sendNotice hr _
      · exact .refl s
    · exact State.lawful_sendResponse hr
  · exact .refl s

theorem State.lawful_frameEnded {s : State} (hr : s.resetAsserted = false) :
    s.Lawful s.frameEnded := by
  have hr' : (s.modLink fun l => { l with transmit := none }).resetAsserted = false := hr
  unfold State.frameEnded
  refine .trans (t := s.modLink fun l => { l with transmit := none })
    (State.lawful_link hr (.inr le_rfl) (.inr le_rfl) rfl) ?_
  dsimp only
  split
  · exact State.lawful_link hr' (.inr le_rfl) (.inr le_rfl) rfl
  split
  · exact .refl _
  · exact State.lawful_arbiterDecide hr'

theorem State.lawful_endClocked {s : State} (hr : s.resetAsserted = false) :
    s.Lawful s.endClocked := by
  unfold State.endClocked
  split
  · split
    · exact State.lawful_frameEnded hr
    · exact .refl s
  · exact .refl s

theorem State.resetAsserted_arbiterDecide (s : State) :
    s.arbiterDecide.resetAsserted = s.resetAsserted := by
  unfold State.arbiterDecide State.sendResponse
  split
  · split
    · split <;> rfl
    · split <;> rfl
  · rfl

theorem State.resetAsserted_endClocked (s : State) :
    s.endClocked.resetAsserted = s.resetAsserted := by
  unfold State.endClocked
  split
  · split
    · unfold State.frameEnded
      dsimp only
      split
      · rfl
      split
      · rfl
      · exact State.resetAsserted_arbiterDecide _
    · rfl
  · rfl

/-- R171, R177: a byte on the link. -/
theorem State.lawful_linkByte {s : State} (hr : s.resetAsserted = false) (b : Byte)
    (scsLow : Bool) : s.Lawful (s.linkByte b scsLow) := by
  have hend := (State.resetAsserted_endClocked s).trans hr
  have harbiter := (State.resetAsserted_arbiterDecide _).trans hend
  have hshift (l : HostLink) : l.shiftOut.inbox = l.inbox ∧ l.shiftOut.responses = l.responses ∧
      l.shiftOut.cache = l.cache := by
    unfold HostLink.shiftOut
    split <;> exact ⟨rfl, rfl, rfl⟩
  unfold State.linkByte
  split
  · split
    · refine .trans (.trans (.trans (State.lawful_endClocked hr)
        (State.lawful_arbiterDecide hend)) (State.lawful_link harbiter ?_ ?_ (hshift _).2.2))
        (State.lawful_receiveByte
          (s := s.endClocked.arbiterDecide.modLink HostLink.shiftOut) harbiter b)
      · rw [(hshift _).1]
        exact .inr le_rfl
      · rw [(hshift _).2.1]
        exact .inr le_rfl
    · exact .refl s
  · exact State.lawful_receiveByte hr b

/-! ### Requests (R174 to R176) -/

/-- A command completes lawfully. -/
def State.CompletesLawfully (s : State) (o : Host.Outcome State Fault Refusal) : Prop :=
  ∃ t, o = .next t ∧ s.Lawful t

theorem completes_whileRunning {s : State} {f : State → State}
    (h : s.resetAsserted = false → s.Lawful (f s)) :
    s.CompletesLawfully (s.whileRunning f) := by
  rcases hr : s.resetAsserted with _ | _
  · exact ⟨f s, whileRunning_running hr f, h hr⟩
  · exact ⟨s, whileRunning_asserted hr f, .refl s⟩

/-- R176: the cache after a response keeps its bound and its distinct tags. -/
theorem cacheAfter_law {cache : List CacheEntry} (hlen : cache.length ≤ 8)
    (htags : (cache.map CacheEntry.tag).Nodup) (f : Frame) (body : List Byte) :
    (cacheAfter cache f body).length ≤ 8 ∧ ((cacheAfter cache f body).map CacheEntry.tag).Nodup := by
  set others := cache.filter fun e => decide (e.tag ≠ f.tag) with hothers
  have hle : others.length ≤ cache.length := List.length_filter_le ..
  have hnodup : (others.map CacheEntry.tag).Nodup := htags.sublist (List.filter_sublist.map _)
  have hnot : f.tag ∉ others.map CacheEntry.tag := by simp [hothers]
  have hadd {l : List CacheEntry} (hsub : l.Sublist others) (e : CacheEntry) (he : e.tag = f.tag) :
      ((l ++ [e]).map CacheEntry.tag).Nodup := by
    rw [List.map_append, List.map_singleton, ← List.concat_eq_append]
    refine (hnodup.sublist (hsub.map _)).concat ?_
    rw [he]
    exact fun hm => hnot ((hsub.map _).subset hm)
  unfold cacheAfter
  dsimp only
  split
  · rename_i h
    exact ⟨by rw [List.length_append, List.length_singleton]; exact h, hadd (.refl _) _ rfl⟩
  · refine ⟨?_, hadd (List.drop_sublist ..) _ rfl⟩
    rw [List.length_append, List.length_singleton, List.length_drop, ← hothers]
    omega

theorem State.lawful_respond {s : State} (hr : s.resetAsserted = false)
    (hroom : s.link.responses.length < 4) (kind : Byte) (f : Frame) (body : List Byte) :
    s.Lawful (s.respond kind f body) :=
  State.lawful_link hr (.inr le_rfl) (.inl (by simpa using hroom)) rfl

/-- What a request does to the device, its answer apart: lawful, the link and RESET as they were. -/
structure State.Serves (s : State) (r : Reply) : Prop where
  lawful : s.Lawful r.state
  link : r.state.link = s.link
  running : r.state.resetAsserted = s.resetAsserted

theorem State.Serves.same (s : State) (result : Result) (fields : List Byte) :
    s.Serves { state := s, result := result, fields := fields } := ⟨.refl s, rfl, rfl⟩

theorem State.lawful_executePlain {s : State} (hr : s.resetAsserted = false)
    (hroom : s.link.responses.length < 4) (f : Frame) {run : State → Reply}
    (h : s.Serves (run s)) : s.Lawful (s.executePlain f run) :=
  h.lawful.trans (State.lawful_respond (h.running.trans hr) (by rw [h.link]; exact hroom) _ _ _)

theorem State.lawful_executeMutating {s : State} (hr : s.resetAsserted = false)
    (hroom : s.link.responses.length < 4) (f : Frame) {run : State → Reply}
    (h : s.Serves (run s)) : s.Lawful (s.executeMutating f run) := by
  unfold State.executeMutating
  split
  · exact State.lawful_respond hr hroom _ _ _
  · refine h.lawful.trans (.trans (State.lawful_outer (h.running.trans hr)
      (l := { (run s).state.link with
        cache := cacheAfter (run s).state.link.cache f (run s).body })
      (n := (run s).state.notices) (fun hl => ?_) id)
      (State.lawful_respond (s := { (run s).state with link :=
          { (run s).state.link with
            cache := cacheAfter (run s).state.link.cache f (run s).body } })
        (h.running.trans hr)
        (by change (run s).state.link.responses.length < 4; rw [h.link]; exact hroom) _ _ _))
    obtain ⟨hlen, htags⟩ := cacheAfter_law hl.cache hl.tags f (run s).body
    exact ⟨hl.inbox, hl.responses, hlen, htags⟩

/-- R174: a request command, by what its handler makes of the head it takes. -/
theorem completes_takeRequest {s : State} {i : Instr} {handle : Frame → State → State}
    (h : ∀ (f : Frame) (u : State), u.resetAsserted = false → u.link.responses.length < 4 →
      u.Lawful (handle f u)) : s.CompletesLawfully (s.takeRequest i handle) := by
  rcases takeRequest_cases s i handle with ht | ⟨f, rest, hc, -, ht⟩
  · exact ⟨s, ht, .refl s⟩
  · refine ⟨_, ht, .trans ?_ (h f s.popInbox hc.running hc.room)⟩
    exact State.lawful_link hc.running (.inr (by simp)) (.inr le_rfl) rfl

/-- R174: a device request, by what its execution makes of the device. -/
theorem completes_device {s : State} {i : Instr} {n : Nat} {go : Frame → State → State}
    (h : ∀ (f : Frame) (u : State), u.resetAsserted = false → u.link.responses.length < 4 →
      u.Lawful (go f u)) :
    s.CompletesLawfully (s.takeRequest i fun f s => s.deviceRequest f n fun s => go f s) := by
  refine completes_takeRequest fun f u hr hroom => ?_
  unfold State.deviceRequest State.refuseRequest
  split
  · exact State.lawful_respond hr hroom _ _ _
  split
  · exact State.lawful_respond hr hroom _ _ _
  · exact h f u hr hroom

/-- R174: a channel request, by what its execution makes of the device. -/
theorem completes_channel {s : State} {i : Instr} {n : Nat} {go : Frame → Channel → State → State}
    (h : ∀ (f : Frame) (c : Channel) (u : State), u.resetAsserted = false →
      u.link.responses.length < 4 → u.Lawful (go f c u)) :
    s.CompletesLawfully (s.takeRequest i fun f s => s.channelRequest f n fun c s => go f c s) := by
  refine completes_takeRequest fun f u hr hroom => ?_
  unfold State.channelRequest State.refuseRequest
  split
  · exact State.lawful_respond hr hroom _ _ _
  split
  · exact State.lawful_respond hr hroom _ _ _
  · exact h f _ u hr hroom

/-- What keeps the laws between commands and leaves the link serves a request. -/
theorem State.Keeps.serves {s t : State} (h : s.Keeps t) (hr : s.resetAsserted = false)
    (result : Result) (fields : List Byte) :
    s.Serves { state := t, result := result, fields := fields } :=
  ⟨h.lawful hr, by dsimp only; rw [h.rest], by dsimp only; rw [h.rest]⟩

end Sys2Proof.Machine
end

section
/-! The requests that write a channel: fill state, freed records, leases, profiles and the
configuration. -/

namespace Sys2Proof.Machine

/-! ### Fill state and HOLD (R120, R122) -/

/-- R120: the fill state of a channel as an evaluation finds it. -/
def Chan.fillFound (k : Chan) : Fill :=
  fillAfter k.store.held k.config.highMark k.config.lowMark k.store.fill

/-- R122: the HOLD output that goes with a fill state. -/
def ChannelConfig.holdFor (k : ChannelConfig) (fill : Fill) : Bool :=
  k.holdEnable && decide (k.mode = .listen) && decide (fill = .high)

/-- R120, R122: a channel's store after an evaluation. -/
def Chan.storeEvaluated (k : Chan) : ChannelStore :=
  { k.store with
    fill := k.fillFound
    hold := if k.fillFound = k.store.fill then k.store.hold else k.config.holdFor k.fillFound }

/-- R120: an evaluation, as one write of the store and a post for a crossing. -/
theorem evaluateFill_eq (s : State) (c : Channel) :
    s.evaluateFill c =
      { s.modChan c (fun k => { k with store := k.storeEvaluated }) with
        notices :=
          if (s.chan c).fillFound = (s.chan c).store.fill then s.notices
          else (s.postChan c .fill (.fill 1)).notices } := by
  by_cases h : (s.chan c).fillFound = (s.chan c).store.fill
  · rw [evaluateFill_same h, if_pos h]
    have hsame := State.modChan_same s c (f := fun k => { k with store := k.storeEvaluated })
      (by simp only [Chan.storeEvaluated, h, if_true])
    exact (congrArg (fun u : State => { u with notices := s.notices }) hsame).symm
  · rw [evaluateFill_crossing rfl h, if_neg h]
    refine congrArg (fun u : State => u.postChan c .fill (.fill 1)) (State.modChan_congr ?_)
    simp only [Chan.storeEvaluated, h, if_false]
    rfl

/-- R120, R122: an evaluation finds a fill state within the marks, and HOLD follows it. -/
theorem Chan.fillLaw_evaluated {k : Chan} (hv : k.config.valid = true)
    (hh : k.store.hold = k.holdDue) : { k with store := k.storeEvaluated }.FillLaw := by
  obtain ⟨hhigh, hlow⟩ := fillAfter_law hv k.store.held k.store.fill
  refine ⟨hv, hhigh, hlow, ?_⟩
  change (if k.fillFound = k.store.fill then k.store.hold else k.config.holdFor k.fillFound) =
    k.config.holdFor k.fillFound
  split
  · rename_i h
    rw [hh, h]
    rfl
  · rfl

/-- A change of a channel's fill state and HOLD, and of the notices. -/
theorem State.workOn_fill {s : State} {c : Channel} {n : NoticeUnit} {fill : Fill} {hold : Bool}
    (hfill : (s.chan c).FillLaw →
      { s.chan c with store := { (s.chan c).store with fill := fill, hold := hold } }.FillLaw)
    (hn : s.NoticeLaw → { s with notices := n }.NoticeLaw) :
    s.WorkOn c { s.modChan c (fun k =>
      { k with store := { k.store with fill := fill, hold := hold } }) with notices := n } := by
  refine ⟨rfl, fun d hd => by simp [State.chan_modChan_other hd], fun h => (hn h).congr rfl, ?_,
    fun _ hp => ?_⟩
  · have : Chan.Keeps (s.chan c)
        { s.chan c with store := { (s.chan c).store with fill := fill, hold := hold } } :=
      ⟨rfl, id, hfill, fun hb => { hb with }, fun _ _ _ => .rfl, fun hp => hp.congr rfl rfl,
        fun _ _ hp => hp.congr rfl id rfl fun _ _ => id⟩
    simpa using this
  · simp only [State.chan_mk, State.getElem_chans, State.chan_modChan_same]
    exact ⟨⟨hp.held, hp.dropped⟩, rfl, rfl⟩

theorem State.noticeLaw_crossing (s : State) (c : Channel) (p : Prop) [Decidable p]
    (h : s.NoticeLaw) :
    { s with notices := if p then s.notices else (s.postChan c .fill (.fill 1)).notices
      }.NoticeLaw := by
  split
  · exact h
  · exact (h.post (slot := .chan c .fill) (v := .fill 1) rfl).congr rfl

theorem State.workOn_evaluateFill (s : State) (c : Channel) : s.WorkOn c (s.evaluateFill c) := by
  rw [evaluateFill_eq]
  exact State.workOn_fill (fun h => Chan.fillLaw_evaluated h.config h.hold)
    (s.noticeLaw_crossing c _)

theorem State.workOn_setHold (s : State) (c : Channel) : s.WorkOn c (s.setHold c) :=
  State.workOn_fill (fun h => ⟨h.config, h.high, h.low, rfl⟩) id

/-- R120, R122, R158: an evaluation after which HOLD is set gives the law, whatever was before. -/
theorem State.fillLaw_evaluateFill_setHold {s : State} {c : Channel}
    (hv : (s.chan c).config.valid = true) : (((s.evaluateFill c).setHold c).chan c).FillLaw := by
  obtain ⟨hhigh, hlow⟩ := fillAfter_law hv (s.chan c).store.held (s.chan c).store.fill
  rw [State.setHold, State.chan_modChan_same, evaluateFill_eq]
  simp only [State.chan_mk, State.getElem_chans, State.chan_modChan_same]
  exact ⟨hv, hhigh, hlow, rfl⟩

/-! ### Freed records (R117, R118, R134, R135) -/

/-- R117: a channel's store after `gone` records, taken from their place before, are freed. -/
def Chan.storeFreed (k : Chan) (gone : List Record) : ChannelStore :=
  if gone = [] then k.store
  else
    { k with store := { k.store with held := k.store.held - segmentSum gone } }.storeEvaluated

/-- R117: freeing records, as one write of the store, the pools, and a post for a crossing. -/
theorem freeRecords_eq (s : State) (c : Channel) (gone : List Record) :
    s.freeRecords c gone =
      { s.modChan c (fun k => { k with store := k.storeFreed gone }) with
        pools :=
          { s.pools with
            freeSegments := s.pools.freeSegments + segmentSum gone
            freeDescriptors := s.pools.freeDescriptors + gone.length }
        notices :=
          if ((s.chan c).storeFreed gone).fill = (s.chan c).store.fill then s.notices
          else (s.postChan c .fill (.fill 1)).notices } := by
  cases gone with
  | nil =>
    have hsame := State.modChan_same s c (f := fun k => { k with store := k.storeFreed [] })
      (by simp [Chan.storeFreed])
    rw [freeRecords_nil, hsame]
    simp [Chan.storeFreed, segmentSum]
  | cons r rs =>
    rw [freeRecords_cons, evaluateFill_eq]
    have hfreed (k : Chan) : k.storeFreed (r :: rs) = { k with store :=
        { k.store with held := k.store.held - segmentSum (r :: rs) } }.storeEvaluated := by
      rw [Chan.storeFreed, if_neg (List.cons_ne_nil r rs)]
    refine State.eq_of_chan (fun d => ?_) ?_
    · by_cases hd : d = c
      · subst hd
        simp [hfreed, State.modStore]
      · simp [State.chan_modChan_other hd, State.chan_modStore_other hd]
    · simp only [hfreed]
      simp [Chan.storeEvaluated]
      rfl

/-- R117: freeing records reads nothing of the queue and the lease. -/
theorem freeRecords_modStore {s : State} {c : Channel} {h : ChannelStore → ChannelStore}
    (hh : ∀ st held fill hold, h { st with held := held, fill := fill, hold := hold } =
      { h st with held := held, fill := fill, hold := hold })
    (hs : ∀ st, (h st).held = st.held ∧ (h st).fill = st.fill ∧ (h st).hold = st.hold)
    (gone : List Record) :
    (s.freeRecords c gone).modStore c h = (s.modStore c h).freeRecords c gone := by
  have hfreed (k : Chan) : { k with store := h k.store }.storeFreed gone = h (k.storeFreed gone) := by
    obtain ⟨hheld, hfill, hhold⟩ := hs k.store
    unfold Chan.storeFreed
    split
    · rfl
    · simp only [Chan.storeEvaluated, Chan.fillFound, hheld, hfill, hhold]
      exact (hh ..).symm
  rw [freeRecords_eq, freeRecords_eq]
  refine State.eq_of_chan (fun d => ?_) ?_
  · by_cases hd : d = c
    · subst hd
      simp [hfreed]
    · simp [State.chan_modChan_other hd, State.chan_modStore_other hd]
  · simp only [State.chan_modStore_same, hfreed, (hs _).2.1]
    simp [State.modStore]
    rfl

/-- R117: records taken from their place and freed. What is gone from queue and lease returns to the
pools. -/
theorem State.workOn_freed {s : State} {c : Channel} {g : ChannelStore → ChannelStore}
    {gone : List Record}
    (hs : (g (s.chan c).store).held = (s.chan c).store.held ∧
      (g (s.chan c).store).fill = (s.chan c).store.fill ∧
      (g (s.chan c).store).hold = (s.chan c).store.hold)
    (hlease : ∀ l, (g (s.chan c).store).lease = some l → (s.chan c).store.lease = some l)
    (hseg : segmentSum (g (s.chan c).store).queue + segmentSum (g (s.chan c).store).leased +
        segmentSum gone =
      segmentSum (s.chan c).store.queue + segmentSum (s.chan c).store.leased)
    (hdesc : (g (s.chan c).store).queue.length + (g (s.chan c).store).leased.length + gone.length =
      (s.chan c).store.queue.length + (s.chan c).store.leased.length) :
    s.WorkOn c ((s.modStore c g).freeRecords c gone) := by
  obtain ⟨hheld, hfill, hhold⟩ := hs
  set k : Chan := { s.chan c with store := g (s.chan c).store } with hk
  have hchan : (s.modStore c g).chan c = k := State.chan_modStore_same ..
  have hstore : (k.storeFreed gone).queue = (g (s.chan c).store).queue ∧
      (k.storeFreed gone).lease = (g (s.chan c).store).lease ∧
      (k.storeFreed gone).held = (s.chan c).store.held - segmentSum gone := by
    unfold Chan.storeFreed
    split
    · rename_i h
      exact ⟨rfl, rfl, by simp [h, segmentSum, hk, hheld]⟩
    · exact ⟨rfl, rfl, by simp [Chan.storeEvaluated, hk, hheld]⟩
  obtain ⟨hqueue, hleaseq, hheld'⟩ := hstore
  have hleased : (k.storeFreed gone).leased = (g (s.chan c).store).leased := by
    simp only [ChannelStore.leased, hleaseq]
  have hself : ((s.modStore c g).freeRecords c gone).chan c =
      { s.chan c with store := k.storeFreed gone } := by
    rw [freeRecords_eq]
    simp [hchan, hk]
  refine ⟨by rw [freeRecords_eq]; rfl, fun d hd => ?_, fun hn => ?_, ?_, fun _ hp => ?_⟩
  · rw [freeRecords_eq]
    simp [State.chan_modChan_other hd, State.chan_modStore_other hd]
  · rw [freeRecords_eq]
    exact (s.noticeLaw_crossing c
      ((((s.modStore c g).chan c).storeFreed gone).fill = ((s.modStore c g).chan c).store.fill)
      hn).congr rfl
  · rw [hself]
    refine ⟨rfl, fun hl l hx => hl l (hlease l (hleaseq ▸ hx)), fun hf => ?_, fun hb => { hb with },
      fun _ _ _ => .rfl, fun hp => hp.congr rfl rfl,
      fun _ _ hp => hp.congr rfl id rfl fun _ _ => id⟩
    unfold Chan.storeFreed
    split
    · exact ⟨hf.config, fun hx => by rw [hk]; simpa [hheld] using hf.high (by simpa [hk, hfill] using hx),
        fun hx => by rw [hk]; simpa [hheld] using hf.low (by simpa [hk, hfill] using hx), by
          have := hf.hold
          simp only [Chan.holdDue] at this ⊢
          simp only [hk, hhold, hfill, this]⟩
    · refine Chan.fillLaw_evaluated (k := { k with store :=
        { k.store with held := k.store.held - segmentSum gone } }) hf.config ?_
      have := hf.hold
      simp only [Chan.holdDue] at this ⊢
      simp only [hk, hhold, hfill, this]
  · have hbefore := hp.held
    simp only [Chan.segmentsHeld] at hbefore
    have hpools : ((s.modStore c g).freeRecords c gone).pools.freeSegments =
        s.pools.freeSegments + segmentSum gone ∧
        ((s.modStore c g).freeRecords c gone).pools.freeDescriptors =
          s.pools.freeDescriptors + gone.length := by
      rw [freeRecords_eq]
      exact ⟨rfl, rfl⟩
    rw [hself, hpools.1, hpools.2]
    refine ⟨⟨?_, hp.dropped⟩, ?_, ?_⟩
    · simp only [Chan.segmentsHeld, hqueue, hleased, hheld']
      omega
    · simp only [hheld']
      omega
    · simp only [Chan.descriptorsHeld, hqueue, hleased]
      omega

/-! ### Leases (R129 to R136) -/

theorem segmentSum_append (rs rs' : List Record) :
    segmentSum (rs ++ rs') = segmentSum rs + segmentSum rs' := by
  simp [segmentSum]

/-- R135: a return changes neither the records' bytes nor their number. -/
theorem segmentSum_returned (rs : List Record) :
    segmentSum (rs.map Record.returned) = segmentSum rs := by
  unfold segmentSum
  rw [List.map_map]
  rfl

/-- R134, R135: a lease released, its kept records back in the queue before the others are freed. -/
theorem releaseLease_eq (s : State) (c : Channel) (l : Lease) (n : Nat) :
    s.releaseLease c l n =
      (s.modStore c fun st =>
        { st with
          lease := none
          queue := (l.records.drop n).map Record.returned ++ st.queue }).freeRecords c
        (l.records.take n) := by
  have hswap := freeRecords_modStore (s := s.modStore c fun st => { st with lease := none }) (c := c)
    (h := fun st => { st with queue := (l.records.drop n).map Record.returned ++ st.queue })
    (fun _ _ _ _ => rfl) (fun _ => ⟨rfl, rfl, rfl⟩) (l.records.take n)
  refine hswap.trans (congrArg (State.freeRecords · c (l.records.take n)) ?_)
  rw [State.modStore_eq, State.modStore_eq, State.modChan_modChan]
  rfl

theorem State.workOn_releaseLease {s : State} {c : Channel} {l : Lease}
    (h : (s.chan c).store.lease = some l) (n : Nat) : s.WorkOn c (s.releaseLease c l n) := by
  have hleased : (s.chan c).store.leased = l.records := by simp [ChannelStore.leased, h]
  have hsum : segmentSum (l.records.take n) + segmentSum (l.records.drop n) =
      segmentSum l.records := by
    rw [← segmentSum_append, List.take_append_drop]
  rw [releaseLease_eq]
  refine State.workOn_freed ⟨rfl, rfl, rfl⟩ (fun _ h => absurd h (by simp)) ?_ ?_
  · rw [hleased]
    simp only [segmentSum_append, segmentSum_returned, ChannelStore.leased]
    simp only [segmentSum, List.map_nil, List.sum_nil] at *
    omega
  · rw [hleased]
    simp only [ChannelStore.leased, List.length_append, List.length_map, List.length_take,
      List.length_drop, List.length_nil]
    omega

theorem State.workOn_purge (s : State) (c : Channel) :
    s.WorkOn c ((s.modStore c fun st => { st with queue := [] }).freeRecords c
      (s.chan c).store.queue) := by
  refine State.workOn_freed ⟨rfl, rfl, rfl⟩ (fun _ => id) ?_ ?_
  · simp [segmentSum, ChannelStore.leased]
    omega
  · simp [ChannelStore.leased]
    omega

/-- A change of a channel's queue and lease that leaves what is held as it was. -/
theorem State.workOn_lease {s : State} {c : Channel} {g : ChannelStore → ChannelStore}
    (hs : (g (s.chan c).store).held = (s.chan c).store.held ∧
      (g (s.chan c).store).fill = (s.chan c).store.fill ∧
      (g (s.chan c).store).hold = (s.chan c).store.hold)
    (hlease : (s.chan c).LeaseLegal → ∀ l, (g (s.chan c).store).lease = some l → l.Law)
    (hseg : segmentSum (g (s.chan c).store).queue + segmentSum (g (s.chan c).store).leased =
      segmentSum (s.chan c).store.queue + segmentSum (s.chan c).store.leased)
    (hdesc : (g (s.chan c).store).queue.length + (g (s.chan c).store).leased.length =
      (s.chan c).store.queue.length + (s.chan c).store.leased.length) :
    s.WorkOn c (s.modStore c g) := by
  obtain ⟨hheld, hfill, hhold⟩ := hs
  refine ⟨rfl, fun d hd => State.chan_modStore_other hd s g, fun hn => hn.congr rfl, ?_,
    fun _ hp => ?_⟩
  · rw [State.chan_modStore_same]
    refine ⟨rfl, hlease, fun hf => ?_, fun hb => { hb with }, fun _ _ _ => .rfl,
      fun hp => hp.congr rfl rfl, fun _ _ hp => hp.congr rfl id rfl fun _ _ => id⟩
    obtain ⟨h1, h2, h3, h4⟩ := hf
    constructor <;> simp only [Chan.holdDue, hheld, hfill, hhold] <;> assumption
  · have hbefore := hp.held
    simp only [Chan.segmentsHeld] at hbefore
    rw [State.chan_modStore_same]
    refine ⟨⟨?_, hp.dropped⟩, ?_, ?_⟩
    · simp only [Chan.segmentsHeld, hheld]
      omega
    · simp only [hheld, State.modStore_pools]
    · simp only [Chan.descriptorsHeld, State.modStore_pools]
      omega

/-- R136: a lease expired. -/
theorem State.workOn_expireLease {s : State} {c : Channel} {l : Lease}
    (h : (s.chan c).store.lease = some l) : s.WorkOn c (s.expireLease c l) := by
  have hleased : (s.chan c).store.leased = l.records := by simp [ChannelStore.leased, h]
  refine .trans (State.workOn_lease ⟨rfl, rfl, rfl⟩ (fun _ _ h => absurd h (by simp)) ?_ ?_)
    (workOn_postChan c c _ rfl)
  · rw [hleased]
    simp only [segmentSum_append, segmentSum_returned, ChannelStore.leased]
    simp only [segmentSum, List.map_nil, List.sum_nil]
    omega
  · rw [hleased]
    simp only [ChannelStore.leased, List.length_append, List.length_map, List.length_nil]
    omega

/-- R130: a lease renewed. -/
theorem State.workOn_renewLease (s : State) (c : Channel) : s.WorkOn c (s.renewLease c) := by
  have hleased (st : ChannelStore) (expiry : Nat) :
      ({ st with lease := st.lease.map fun l => { l with expiry := expiry } } :
        ChannelStore).leased = st.leased := by
    unfold ChannelStore.leased
    cases st.lease <;> rfl
  unfold State.renewLease
  refine State.workOn_lease ⟨rfl, rfl, rfl⟩ (fun hl l hx => ?_) ?_ ?_
  · obtain ⟨l', hl', rfl⟩ := Option.map_eq_some_iff.1 hx
    have := hl l' hl'
    exact ⟨this.id, this.records⟩
  · rw [hleased]
  · rw [hleased]

/-- R129: a grant takes at least the head and at most as many as asked for. -/
theorem takeCount_le (q : List Record) (left bytes : Nat) :
    takeCount q left bytes ≤ left ∧ takeCount q left bytes ≤ q.length := by
  induction q generalizing left bytes with
  | nil => simp [takeCount]
  | cons r rest ih =>
    unfold takeCount
    split
    · rename_i h
      have := ih (left - 1) (bytes - r.bytes.length)
      simp only [List.length_cons]
      omega
    · exact ⟨Nat.zero_le _, Nat.zero_le _⟩

theorem grantCount_range {q : List Record} (hq : q ≠ []) {maxRecords : Nat} (h : 1 ≤ maxRecords)
    (maxBytes : Nat) : 1 ≤ grantCount maxRecords maxBytes q ∧
      grantCount maxRecords maxBytes q ≤ maxRecords ∧
      grantCount maxRecords maxBytes q ≤ q.length := by
  cases q with
  | nil => exact absurd rfl hq
  | cons r rest =>
    simp only [grantCount]
    split
    · have := takeCount_le rest (maxRecords - 1) (maxBytes - r.bytes.length)
      simp only [List.length_cons]
      omega
    · simp only [List.length_cons]
      omega

/-- R127: the next lease id is an id. -/
theorem nextLeaseId_range (id : Nat) : 1 ≤ nextLeaseId id ∧ nextLeaseId id ≤ 65535 := by
  unfold nextLeaseId
  split <;> omega

/-- R129: a lease granted. -/
theorem State.keeps_grantLease {s : State} {c : Channel} {n : Nat}
    (hlease : (s.chan c).store.lease = none) (hn : 1 ≤ n ∧ n ≤ 16)
    (hq : n ≤ (s.chan c).store.queue.length) : s.Keeps (s.grantLease c n) := by
  have hleased : (s.chan c).store.leased = [] := by simp [ChannelStore.leased, hlease]
  have hid := nextLeaseId_range s.leaseCounter
  set l : Lease :=
    { id := s.leaseCounter
      records := (s.chan c).store.queue.take n
      expiry := s.expiryInMs (s.chan c).config.leaseTimeoutMs } with hl
  have hlen : l.records.length = n := by
    rw [hl]
    simp only [List.length_take]
    omega
  have hsum : segmentSum ((s.chan c).store.queue.drop n) + segmentSum l.records =
      segmentSum (s.chan c).store.queue := by
    rw [Nat.add_comm, hl, ← segmentSum_append, List.take_append_drop]
  have hgrant : s.grantLease c n =
      { s.modStore c (fun st => { st with lease := some l, queue := (s.chan c).store.queue.drop n })
        with leaseCounter := nextLeaseId s.leaseCounter } := by
    unfold State.grantLease
    exact congrArg (fun u : State => { u with leaseCounter := nextLeaseId s.leaseCounter })
      (State.modChan_congr (s := s) (c := c) rfl)
  rw [hgrant]
  have hself : ({ s.modStore c (fun st =>
      { st with lease := some l, queue := (s.chan c).store.queue.drop n }) with
        leaseCounter := nextLeaseId s.leaseCounter } : State).chan c =
      { s.chan c with store :=
        { (s.chan c).store with
          lease := some l, queue := (s.chan c).store.queue.drop n } } := by simp
  have hothers : State.OthersAs { s.modStore c (fun st =>
      { st with lease := some l, queue := (s.chan c).store.queue.drop n }) with
        leaseCounter := nextLeaseId s.leaseCounter } s c := fun d hd => by
    simp [State.chan_modStore_other hd]
  have hheld (hp : s.PoolLaw) := hp.held c
  simp only [Chan.segmentsHeld, hleased] at hheld
  refine ⟨rfl, fun h => ⟨h.counter, h.wraps⟩, fun h => h.congr rfl, fun h => ?_, fun d hf => ?_,
    fun d => ?_, fun hb d hm => ?_, fun hb => ?_, fun hb hp => ?_, fun hp => ?_, fun hb hp hc => ?_⟩
  · refine ⟨hothers.forall (p := Chan.LeaseLegal) (fun _ l' hl' => ?_) h.leases, hid⟩
    rw [hself] at hl'
    obtain rfl := Option.some.inj hl'
    exact ⟨h.counter, by rw [hlen]; exact hn⟩
  · by_cases hd : d = c
    · subst hd
      rw [hself]
      exact ⟨hf.config, hf.high, hf.low, hf.hold⟩
    · rwa [hothers d hd]
  · by_cases hd : d = c
    · rw [hd, hself]
    · rw [hothers d hd]
  · by_cases hd : d = c
    · subst hd
      rw [hself]
      exact hm
    · rwa [hothers d hd]
  · exact hb.of_othersAs hothers rfl (by rw [hself]; exact { hb.channels c with })
      (by rw [hself]; exact fun _ _ => .rfl)
  · have hsums := State.sumChans_othersAs hothers fun k => k.store.held
    have hsums' := State.sumChans_othersAs hothers Chan.descriptorsHeld
    have hd : Chan.descriptorsHeld { s.chan c with store :=
        { (s.chan c).store with lease := some l, queue := (s.chan c).store.queue.drop n } } =
        (s.chan c).descriptorsHeld := by
      simp only [Chan.descriptorsHeld, hleased]
      simp only [ChannelStore.leased, hlen, List.length_drop, List.length_nil]
      omega
    rw [hself] at hsums hsums'
    rw [hd] at hsums'
    refine ⟨hothers.forall (p := fun k => k.store.held = k.segmentsHeld) (fun _ => ?_) hp.held,
      hothers.forall (p := Chan.droppedIsEmpty) (by rw [hself]; exact id) hp.dropped,
      (congrArg _ (Nat.add_right_cancel hsums)).trans hp.segments,
      (congrArg _ (Nat.add_right_cancel hsums')).trans hp.descriptors⟩
    rw [hself]
    have := hheld hp
    simp only [Chan.segmentsHeld, ChannelStore.leased] at this ⊢
    simp only [segmentSum, List.map_nil, List.sum_nil] at this hsum ⊢
    omega
  · exact ⟨hp.rates, hothers.forall (fun hx => hx.congr (by rw [hself]) (by rw [hself]))
      hp.profiles, hp.trial⟩
  · exact ⟨hothers.forall (fun hx => hx.congr (by rw [hself]) (by rw [hself]; exact id)
      (by rw [hself]) (by rw [hself]; exact fun _ _ => id)) hc.channels, hc.trial⟩

end Sys2Proof.Machine
end

section
/-! SET_GIVEN, CONFIGURE and the resets keep every law. -/

namespace Sys2Proof.Machine

/-! ### SET_GIVEN (R9, R10, R17) -/

/-- R9: a block that is accepted gives a legal profile under a defined rate. -/
theorem parseGiven_legal {b : List Byte} {rates : Vector Nat 16} {g : GivenProfile}
    (h : parseGiven b rates = some g) : g.valid = true ∧ rates[g.line.rate.val] ≠ 0 := by
  unfold parseGiven at h
  split at h
  · dsimp only at h
    split at h
    · rename_i hv
      obtain rfl := Option.some.inj h
      simpa using hv
    · simp at h
  · simp at h

/-- R9: a legal given profile written. -/
theorem State.workOn_given (s : State) (c : Channel) {g : GivenProfile} (hg : g.valid = true) :
    s.WorkOn c (s.modChan c fun k => { k with given := g }) :=
  State.workOn_modChan ⟨rfl, id, fun hf => hf.congr rfl rfl, fun hb => { hb with },
    fun _ _ _ => .rfl, fun hp => ⟨hg, hp.line, hp.nominal, hp.framing⟩,
    fun _ _ hp => hp.congr rfl id rfl fun _ _ => id⟩ rfl fun _ => rfl

theorem State.workOn_pendingUpdate (s : State) (c : Channel) :
    s.WorkOn c (s.modChan c fun k => { k with pendingUpdate := true }) :=
  State.workOn_modChan (Chan.keeps_of_same rfl rfl rfl rfl (fun hb => { hb with })
    (fun _ _ _ => .rfl) fun _ _ hp => hp.congr rfl id rfl fun _ _ => id) rfl fun _ => rfl

/-- R17: an application of the framing fields, the framer's state left as it is or set to ALIGNING. -/
theorem Chan.keeps_applied {k k' : Chan} (hc : k'.config = k.config) (hg : k'.given = k.given)
    (hs : k'.store = k.store) (hsam : k'.sampler = k.sampler) (hctl : k'.ctl = k.ctl)
    (hw : k'.working.line = k.working.line ∧ k'.working.nominal = k.working.nominal ∧
      k'.working.confirmed = k.working.confirmed ∧ k'.working.framing = k.given.framing)
    (hstate : k.Blocks → k'.framer.state = k.framer.state)
    (hgap : k'.framer.gapTimer = none ∨ k'.framer.gapTimer = k.framer.gapTimer) :
    k.Keeps k' := by
  obtain ⟨hline, hnominal, hconfirmed, hframing⟩ := hw
  refine ⟨hc, by unfold Chan.LeaseLegal; rw [hs]; exact id, fun hf => hf.congr hc hs, fun hb => ?_,
    by rw [hctl]; exact fun _ _ _ => .rfl, fun hp => ?_, fun _ _ hp => ?_⟩
  · obtain ⟨h1, h2, h3, h4, h5, h6, h7⟩ := hb
    have hst := hstate ⟨h1, h2, h3, h4, h5, h6, h7⟩
    refine ⟨by rwa [hst, hctl], ?_, by rwa [hsam, hctl], by rwa [hctl, hconfirmed], by rwa [hctl],
      by rwa [hctl], by rwa [hctl]⟩
    rcases hgap with h | h <;> rw [h]
    · simp
    · rwa [hst]
  · exact ⟨by rw [hg]; exact hp.given, by rw [hline]; exact hp.line,
      by rw [hnominal]; exact hp.nominal,
      by rw [hframing]; exact (Bool.and_eq_true_iff.1 hp.given).2⟩
  · exact ⟨by rw [hconfirmed, hnominal]; exact hp.rate,
      by rw [hctl, hnominal, hsam]; exact hp.tracked,
      by rw [hsam, hnominal]; exact hp.character⟩

/-- R17, R104: the framing fields applied outside ALIGN. -/
theorem State.workOn_applyBetween (s : State) (c : Channel) :
    s.WorkOn c (s.modChan c Chan.applyBetween) := by
  refine State.workOn_modChan (Chan.keeps_applied rfl rfl rfl rfl rfl ⟨rfl, rfl, rfl, rfl⟩
    (fun _ => rfl) ?_) rfl fun _ => rfl
  simp only [Chan.applyBetween, Framer.reframed]
  split
  · exact .inl rfl
  · exact .inr rfl

/-- R10, R17: what an accepted SET_GIVEN does by lock state. -/
theorem State.workOn_updatePending (s : State) (c : Channel) :
    s.WorkOn c (s.updatePending c) := by
  unfold State.updatePending
  split
  case h_7 h =>
    rw [beginHunt_eq, State.modChan_modChan]
    refine .trans (State.workOn_modChan (Chan.keeps_applied rfl rfl rfl rfl rfl
      ⟨rfl, rfl, rfl, rfl⟩ (fun hb => ?_) (.inl rfl)) rfl fun hb => ?_)
      (State.workOn_boundaryIfAtOnce (by rw [State.chan_modChan_same]))
    all_goals
      have hstate : (s.chan c).framer.state = .aligning := by
        have := hb.framer
        rw [h] at this
        cases hs : (s.chan c).framer.state <;>
          simp_all [FramerState.follows, LockState.decoding]
    · exact hstate.symm
    · rw [Chan.openHolding_eq_none (by simp), Chan.openHolding_eq_none (by simp [hstate])]
  case h_8 | h_9 =>
    split
    · exact s.workOn_pendingUpdate c
    · exact s.workOn_applyBetween c
  case h_1 | h_2 => exact .refl c s
  all_goals exact s.workOn_pendingUpdate c

theorem State.serves_setGiven {s : State} (hr : s.resetAsserted = false) (c : Channel)
    (b : List Byte) : s.Serves (s.setGiven c b) := by
  unfold State.setGiven
  split
  · rename_i g h
    exact ((s.workOn_given c (parseGiven_legal h).1).trans
      (State.workOn_updatePending _ c)).keeps.serves hr _ _
  · exact .same s _ _

/-! ### CONFIGURE (R20, R21, R73, R158) -/

theorem parseConfig_legal {b : List Byte} {k : ChannelConfig} (h : parseConfig b = some k) :
    k.valid = true := by
  unfold parseConfig at h
  split at h
  · dsimp only at h
    split at h
    · rename_i hv
      obtain rfl := Option.some.inj h
      exact hv
    · simp at h
  · simp at h

/-- R72: in OFF an accepted change moves the filter alone. -/
theorem judgePending_off {s : State} {c : Channel} (h : (s.chan c).ctl.lock = .off) :
    s.judgePending c = s ∨ s.judgePending c = s.modSampler c fun p =>
      { p with accepted := (s.chan c).sampler.accepted.other, pendingChange := none } := by
  unfold State.judgePending
  split
  · split
    · refine .inr ?_
      unfold State.deliverEdge
      simp [h]
    · exact .inl rfl
  · exact .inl rfl

/-- The blocks of a channel that does not decode. -/
theorem Chan.Blocks.resting {k : Chan} (hb : k.Blocks) (h : k.ctl.lock.decoding = false) :
    k.framer.state = .idle ∧ k.framer.gapTimer = none ∧ k.sampler.decode = .stopped ∧
      k.ctl.holdoverTimer = none ∧ k.ctl.dormantTimer = none := by
  have hidle : k.framer.state = .idle := (FramerState.follows_rest h).1 hb.framer
  refine ⟨hidle, ?_, hb.sampler.2 h, ?_, ?_⟩
  · by_contra hx
    exact hb.gapTimer (Option.isSome_iff_ne_none.2 hx) hidle
  · by_contra hx
    rw [hb.holdoverTimer.1 (Option.isSome_iff_ne_none.2 hx)] at h
    simp [LockState.decoding] at h
  · by_contra hx
    rw [hb.dormantTimer (Option.isSome_iff_ne_none.2 hx)] at h
    simp at h

/-- R20: LISTEN entry on a channel in OFF. -/
theorem State.leaves_listenEntry {s : State} {c : Channel} (h : (s.chan c).ctl.lock = .off)
    (hm : (s.chan c).config.mode = .listen) : State.Leaves c s (s.listenEntry c) := by
  have hself : (s.listenEntry c).chan c = (s.chan c).freshQuiet s.rates s.now := by
    simp [State.listenEntry]
  have hrest (hb : s.Blocks) := (hb.channels c).resting (by rw [h]; rfl)
  have hlock : ((s.listenEntry c).chan c).ctl.lock = .quiet := by rw [hself]; rfl
  refine
    { rest := rfl
      others := fun d hd => by simp [State.listenEntry, State.chan_modChan_other hd]
      unit := fun hb => ?_
      service := fun _ => id
      notices := fun hn => hn.congr rfl
      config := by rw [hself]; rfl
      store := by rw [hself]; rfl
      blocks := fun hb => ?_
      holding := fun hb => ?_
      queued := by simp [hlock]
      trial := by simp [hlock]
      mode := fun _ _ => iff_of_false (by simp [hlock]) ?_
      profile := fun hp => ?_
      period := fun hb _ _ => ?_ }
  · obtain ⟨report, abandoned, hgive⟩ := giveUpTrial_eq s c
    rw [hb.giveUpTrial (by simp [h]) (by simp [h])] at hgive
    exact congrArg State.trial hgive
  · obtain ⟨hidle, hgap, hdecode, hhold, hdormant⟩ := hrest hb
    rw [hself]
    exact Chan.blocks_of_rest hidle hgap hdecode rfl rfl hhold hdormant
  · rw [hself, Chan.openHolding_eq_none (k := s.chan c) (by simp [(hrest hb).1]),
      Chan.openHolding_eq_none]
    intro r
    change (s.chan c).framer.state ≠ _
    simp [(hrest hb).1]
  · rw [hself]
    change (s.chan c).config.mode ≠ _
    simp [hm]
  · rw [hself]
    exact ((hp.profiles c).wholeCopy hp.rates).congr rfl rfl
  · rw [hself]
    refine ⟨fun hx => (Bool.false_ne_true hx).elim, fun hx => (Bool.false_ne_true hx).elim,
      fun t per hx => ?_⟩
    change (s.chan c).sampler.decode = _ ∨ (s.chan c).sampler.decode = _ at hx
    simp [(hrest hb).2.2.1] at hx

/-- The laws that do not rest on the lock states, kept from `s` to `t`, the configurations
included. -/
structure State.KeepsTables (s t : State) : Prop where
  rest : t =
    { s with
      time := t.time, chans := t.chans, trial := t.trial, pools := t.pools, notices := t.notices
      leaseCounter := t.leaseCounter, lineIn := t.lineIn }
  time : s.TimeLaw → t.TimeLaw
  notices : s.NoticeLaw → t.NoticeLaw
  leases : s.LeaseLaw → t.LeaseLaw
  fill : ∀ c, (s.chan c).FillLaw → (t.chan c).FillLaw
  configs : ∀ c, (t.chan c).config = (s.chan c).config
  profile : s.ProfileLaw → t.ProfileLaw

theorem State.Keeps.tables {s t : State} (h : s.Keeps t) : s.KeepsTables t :=
  ⟨h.rest, h.time, h.notices, h.leases, h.fill, h.configs, h.profile⟩

theorem State.KeepsTables.trans {s t u : State} (h : s.KeepsTables t) (h' : t.KeepsTables u) :
    s.KeepsTables u where
  rest := by rw [h'.rest, h.rest]
  time := h'.time ∘ h.time
  notices := h'.notices ∘ h.notices
  leases := h'.leases ∘ h.leases
  fill c := h'.fill c ∘ h.fill c
  configs c := (h'.configs c).trans (h.configs c)
  profile := h'.profile ∘ h.profile

/-- LISTEN entry, whatever the lock state. -/
theorem State.keepsTables_listenEntry (s : State) (c : Channel) :
    s.KeepsTables (s.listenEntry c) := by
  have hself : (s.listenEntry c).chan c = (s.chan c).freshQuiet s.rates s.now := by
    simp [State.listenEntry]
  have hothers : (s.listenEntry c).OthersAs s c := fun d hd => by
    simp [State.listenEntry, State.chan_modChan_other hd]
  refine ⟨rfl, fun h => ⟨h.counter, h.wraps⟩, fun h => h.congr rfl,
    fun h => ⟨?_, h.counter⟩, fun d => ?_, fun d => ?_, fun h => ⟨h.rates, ?_, h.trial⟩⟩
  · exact hothers.forall (p := Chan.LeaseLegal) (by rw [hself]; exact id) h.leases
  · by_cases hd : d = c
    · subst hd
      rw [hself]
      exact fun hf => hf.congr rfl rfl
    · rw [hothers d hd]
      exact id
  · by_cases hd : d = c
    · subst hd
      rw [hself]
      rfl
    · rw [hothers d hd]
  · exact hothers.forall (p := Chan.ProfileLaw) (fun hp => by
      rw [hself]
      exact (hp.wholeCopy h.rates).congr rfl rfl) h.profiles

/-! #### The steps of CONFIGURE -/

/-- R158, step 1: the record written. -/
def State.configured (s : State) (c : Channel) (new : ChannelConfig) : State :=
  s.modChan c fun k => { k with config := new }

/-- R20, R21: the mode transition. -/
def State.modeEntry (s : State) (c : Channel) (old new : Mode) : State :=
  match old, new with
  | .off, .listen => s.listenEntry c
  | .listen, .off => s.offEntry c
  | .off, .off | .listen, .listen => s

/-- R158, step 3. -/
def State.fillEntry (s : State) (c : Channel) (old new : ChannelConfig) : State :=
  if fillConcerned old new then (s.evaluateFill c).setHold c else s

theorem configureChannel_eq (s : State) (c : Channel) (new : ChannelConfig) :
    s.configureChannel c new =
      (((s.configured c new).judgePending c).modeEntry c (s.chan c).config.mode new.mode).fillEntry c
        (s.chan c).config new := by
  unfold State.configureChannel State.fillEntry State.modeEntry State.configured
  rfl

theorem State.workOn_fillEntry (s : State) (c : Channel) (old new : ChannelConfig) :
    s.WorkOn c (s.fillEntry c old new) := by
  unfold State.fillEntry
  split
  · exact (s.workOn_evaluateFill c).trans (State.workOn_setHold _ c)
  · exact .refl c s

theorem State.keepsTables_modeEntry {s : State} {c : Channel} {old new : Mode}
    (h : (s.chan c).config.mode = new) : s.KeepsTables (s.modeEntry c old new) := by
  unfold State.modeEntry
  split
  · exact s.keepsTables_listenEntry c
  · exact (State.keeps_offEntry h).tables
  · exact (State.Keeps.refl s).tables
  · exact (State.Keeps.refl s).tables

/-- R20, R21: the mode transition, from a mode that fits the lock state. -/
theorem State.keeps_modeEntry {s : State} {c : Channel} {old new : Mode}
    (h : (s.chan c).config.mode = new) (hoff : old = .off → (s.chan c).ctl.lock = .off)
    (hsame : old = new → (s.chan c).ModeLaw) :
    s.Keeps (s.modeEntry c old new) ∧
      (s.Blocks → ((s.modeEntry c old new).chan c).ModeLaw) := by
  unfold State.modeEntry
  split
  · refine ⟨(State.leaves_listenEntry (hoff rfl) h).keeps, fun _ => ?_⟩
    simp [State.listenEntry, Chan.ModeLaw, Chan.freshQuiet, Chan.enterQuiet, Chan.wholeCopy, h]
  · exact ⟨State.keeps_offEntry h, State.modeLaw_offEntry h⟩
  all_goals exact ⟨.refl s, fun _ => hsame rfl⟩

/-- R158: where CONFIGURE concerns neither the marks nor HOLD, the fill law stands. -/
theorem Chan.FillLaw.reconfigured {k : Chan} (h : k.FillLaw) {new : ChannelConfig}
    (hv : new.valid = true) (hn : fillConcerned k.config new = false) :
    { k with config := new }.FillLaw := by
  simp only [fillConcerned, Bool.or_eq_false_iff, decide_eq_false_iff_not, not_not] at hn
  obtain ⟨⟨⟨⟨⟨-, hhigh⟩, hlow⟩, henable⟩, -⟩, hmode⟩ := hn
  exact ⟨hv, fun hf => hlow ▸ h.high hf, fun hf => hhigh ▸ h.low hf, by
    rw [h.hold]
    simp only [Chan.holdDue, henable, hmode]⟩

theorem State.Blocks.configured {s : State} (h : s.Blocks) (c : Channel) (new : ChannelConfig) :
    (s.configured c new).Blocks := by
  have hself : (s.configured c new).chan c = { s.chan c with config := new } := by
    simp [State.configured]
  have hothers : (s.configured c new).OthersAs s c := fun d hd => by
    simp [State.configured, State.chan_modChan_other hd]
  refine h.of_othersAs hothers rfl (by rw [hself]; exact { h.channels c with }) ?_
  intro _ _
  rw [hself]

/-- What a state keeps when `c` is given another record of fields in `w`, and `t` follows. -/
theorem State.serves_reconfigured {s w t : State} (hr : s.resetAsserted = false) {c : Channel}
    {new : ChannelConfig} (hw : w = s.configured c new) (htables : w.KeepsTables t)
    (hkeeps : s.LockLaw → w.Keeps t) (hmode : s.LockLaw → (t.chan c).ModeLaw)
    (hfill : (s.chan c).FillLaw → (t.chan c).FillLaw)
    (result : Result) (fields : List Byte) :
    s.Serves { state := t, result := result, fields := fields } := by
  have hself : w.chan c = { s.chan c with config := new } := by simp [hw, State.configured]
  have hothers : w.OthersAs s c := fun d hd => by
    simp [hw, State.configured, State.chan_modChan_other hd]
  have hwrest : w = { s with chans := w.chans } := by rw [hw]; rfl
  have hblocks (h : s.Blocks) : w.Blocks := hw ▸ h.configured c new
  have hpool (h : s.PoolLaw) : w.PoolLaw := by
    have hheld := State.sumChans_othersAs hothers fun k => k.store.held
    have hdesc := State.sumChans_othersAs hothers Chan.descriptorsHeld
    rw [hself] at hheld hdesc
    have hp : w.pools = s.pools := by rw [hwrest]
    refine ⟨?_, ?_, ?_, ?_⟩
    · exact hothers.forall (p := fun k => k.store.held = k.segmentsHeld)
        (by rw [hself]; exact id) h.held
    · exact hothers.forall (p := Chan.droppedIsEmpty) (by rw [hself]; exact id) h.dropped
    · rw [hp, ← h.segments, Nat.add_right_cancel hheld]
    · rw [hp, ← h.descriptors, Nat.add_right_cancel hdesc]
  have hprofile (h : s.ProfileLaw) : w.ProfileLaw := by
    refine ⟨by rw [hwrest]; exact h.rates, ?_, by rw [hwrest]; exact h.trial⟩
    exact hothers.forall (p := Chan.ProfileLaw)
      (fun hp => by rw [hself]; exact hp.congr rfl rfl) h.profiles
  have hperiod (h : s.PeriodLaw) : w.PeriodLaw := by
    refine ⟨?_, by rw [hwrest]; exact h.trial⟩
    exact hothers.forall (p := Chan.PeriodLaw)
      (fun hp => by rw [hself]; exact hp.congr rfl id rfl fun _ _ => id) h.channels
  have hrest : t = { s with
      time := t.time, chans := t.chans, trial := t.trial, pools := t.pools, notices := t.notices
      leaseCounter := t.leaseCounter, lineIn := t.lineIn } := by rw [htables.rest, hwrest]
  have hruns : t.resetAsserted = false := by rw [hrest]; exact hr
  refine ⟨
    { pending := by rw [hrest]
      time := fun h => htables.time (by rw [hwrest]; exact ⟨h.counter, h.wraps⟩)
      reset := fun _ => State.resetLaw_of_running hruns
      lock := fun _ h => ?_
      pool := fun _ h hp =>
        (hkeeps h).pool (hblocks (State.lockLaw_iff.1 h).2) (hpool hp)
      fill := fun h d => ?_
      notices := fun h => htables.notices (h.congr (by rw [hwrest]))
      link := fun h => h.congr (by rw [hrest])
      leases := fun h => htables.leases ⟨hothers.forall (p := Chan.LeaseLegal)
        (by rw [hself]; exact id) h.leases, by rw [hwrest]; exact h.counter⟩
      profile := fun h => htables.profile (hprofile h)
      period := fun _ h hp hq =>
        (hkeeps h).period (hblocks (State.lockLaw_iff.1 h).2) (hprofile hp) (hperiod hq) },
    by dsimp only; rw [hrest], by dsimp only; rw [hrest]⟩
  · obtain ⟨hmodes, hb⟩ := State.lockLaw_iff.1 h
    refine State.lockLaw_iff.2 ⟨fun d => ?_, (hkeeps h).blocks (hblocks hb)⟩
    by_cases hd : d = c
    · subst hd
      exact hmode h
    · exact (hkeeps h).modes (hblocks hb) d (by rw [hothers d hd]; exact hmodes d)
  · by_cases hd : d = c
    · subst hd
      exact hfill (h d)
    · exact htables.fill d (by rw [hothers d hd]; exact h d)

theorem State.serves_configureChannel {s : State} (hr : s.resetAsserted = false) (c : Channel)
    {new : ChannelConfig} (hv : new.valid = true) (result : Result) (fields : List Byte) :
    s.Serves { state := s.configureChannel c new, result := result, fields := fields } := by
  rw [configureChannel_eq]
  generalize hw : s.configured c new = w
  have hself : w.chan c = { s.chan c with config := new } := by simp [← hw, State.configured]
  have hwblocks (hb : s.Blocks) : w.Blocks := hw ▸ hb.configured c new
  have hjudged : w.Keeps (w.judgePending c) := State.keeps_judgePending ..
  generalize hu : w.judgePending c = u at hjudged
  have hconfig : (u.chan c).config = new := by rw [hjudged.configs, hself]
  have hmode : (u.chan c).config.mode = new.mode := by rw [hconfig]
  have hmodeTables := State.keepsTables_modeEntry hmode (old := (s.chan c).config.mode)
  have hlaw (h : s.LockLaw) : u.Keeps (u.modeEntry c (s.chan c).config.mode new.mode) ∧
      (u.Blocks → ((u.modeEntry c (s.chan c).config.mode new.mode).chan c).ModeLaw) := by
    obtain ⟨hmodes, hb⟩ := State.lockLaw_iff.1 h
    refine State.keeps_modeEntry hmode (fun hoff => ?_) fun hsame => ?_
    · have hlock : (w.chan c).ctl.lock = .off := by rw [hself]; exact (hmodes c).2 hoff
      rw [← hu]
      rcases judgePending_off hlock with h' | h' <;> simp [h', hlock]
    · refine hjudged.modes (hwblocks hb) c ?_
      rw [hself]
      unfold Chan.ModeLaw
      rw [← hsame]
      exact hmodes c
  generalize hx : u.modeEntry c (s.chan c).config.mode new.mode = x at hmodeTables hlaw
  have hfill := State.workOn_fillEntry x c (s.chan c).config new
  refine State.serves_reconfigured hr hw.symm
    ((hjudged.tables.trans hmodeTables).trans hfill.keeps.tables)
    (fun h => (hjudged.trans (hlaw h).1).trans hfill.keeps) (fun h => ?_) (fun h => ?_) _ _
  · have hb : u.Blocks := hjudged.blocks (hwblocks (State.lockLaw_iff.1 h).2)
    exact hfill.keeps.modes ((hlaw h).1.blocks hb) c ((hlaw h).2 hb)
  · unfold State.fillEntry
    split
    · exact State.fillLaw_evaluateFill_setHold (by
        rw [hmodeTables.configs, hconfig]; exact hv)
    · rename_i hn
      refine hmodeTables.fill c (hjudged.fill c ?_)
      rw [hself]
      exact h.reconfigured hv (Bool.not_eq_true _ ▸ hn)

theorem State.serves_configure {s : State} (hr : s.resetAsserted = false) (c : Channel)
    (b : List Byte) : s.Serves (s.configure c b) := by
  unfold State.configure
  split
  · rename_i h
    exact State.serves_configureChannel hr c (parseConfig_legal h) _ _
  · exact .same s _ _

end Sys2Proof.Machine
end

section
/-! The resets keep every law: RESET_CHANNEL, the soft restart, the hardware reset and its end. -/

namespace Sys2Proof.Machine

/-! ### A channel that has been reset -/

/-- R166, R170: a channel after a reset: an empty store, a framer in IDLE, a sampler stopped, OFF or
QUIET by its mode with no timer running, its profile not confirmed. -/
structure Chan.Clear (k : Chan) : Prop where
  framer : k.framer = resetFramer
  store : k.store = resetChannelStore
  decode : k.sampler.decode = .stopped
  lock : k.ctl.lock = match k.config.mode with | .listen => .quiet | .off => .off
  gatherTimer : k.ctl.gatherTimer = none
  holdoverTimer : k.ctl.holdoverTimer = none
  dormantTimer : k.ctl.dormantTimer = none
  confirmed : k.working.confirmed = false

/-- R166: a channel after RESET_CHANNEL, the trial report apart. -/
def Chan.cleared (k : Chan) (rates : Vector Nat 16) (now : Nat) (report : Option TrialReport) :
    Chan :=
  { k.reset rates now with ctl := { (k.reset rates now).ctl with report := report } }

theorem Chan.clear_cleared (k : Chan) (rates : Vector Nat 16) (now : Nat)
    (report : Option TrialReport) : (k.cleared rates now report).Clear := by
  cases h : k.config.mode <;> constructor <;>
    simp [Chan.cleared, Chan.reset, Chan.wholeCopy, WorkingProfile.written, Sampler.stopped, h,
      Sampler.clearCapture]

theorem Chan.clear_resetChan (line : Level) : (resetChan line).Clear := by
  constructor <;> rfl

section Clear

variable {k : Chan} (h : k.Clear)

include h

theorem Chan.Clear.lock_cases : k.ctl.lock = .quiet ∨ k.ctl.lock = .off := by
  rw [h.lock]
  cases k.config.mode
  · exact .inr rfl
  · exact .inl rfl

theorem Chan.Clear.resting : k.ctl.lock.decoding = false := by
  rcases h.lock_cases with hl | hl <;> rw [hl] <;> rfl

theorem Chan.Clear.blocks : k.Blocks :=
  Chan.blocks_of_rest (by rw [h.framer]; rfl) (by rw [h.framer]; rfl) h.decode h.resting
    h.gatherTimer h.holdoverTimer h.dormantTimer

theorem Chan.Clear.mode : k.ModeLaw := by
  unfold Chan.ModeLaw
  rw [h.lock]
  cases k.config.mode <;> simp

theorem Chan.Clear.pooled : k.Pooled :=
  ⟨by rw [Chan.segmentsHeld, h.framer, h.store]; rfl, by
    intro r hr
    rw [Chan.openRecord?_eq_some, h.framer] at hr
    simp [resetFramer] at hr⟩

theorem Chan.Clear.holds_nothing : k.store.held = 0 ∧ k.descriptorsHeld = 0 := by
  rw [Chan.descriptorsHeld, h.framer, h.store]
  exact ⟨rfl, rfl⟩

theorem Chan.Clear.lease : k.LeaseLegal := by
  unfold Chan.LeaseLegal
  rw [h.store]
  simp [resetChannelStore]

theorem Chan.Clear.fill (hv : k.config.valid = true) : k.FillLaw := by
  refine ⟨hv, ?_, fun _ => ?_, ?_⟩
  · rw [h.store]
    simp [resetChannelStore]
  · rw [h.store]
    simp only [ChannelConfig.valid, Bool.and_eq_true, decide_eq_true_eq] at hv
    simp only [resetChannelStore]
    omega
  · rw [Chan.holdDue, h.store]
    simp [resetChannelStore]

theorem Chan.Clear.period : k.PeriodLaw :=
  ⟨fun hx => absurd (h.confirmed.symm.trans hx) Bool.false_ne_true,
    fun hx => absurd (h.resting.symm.trans hx) Bool.false_ne_true,
    fun t per hx => by rw [h.decode] at hx; simp at hx⟩

end Clear

theorem Chan.ProfileLaw.cleared {k : Chan} (h : k.ProfileLaw) {rates : Vector Nat 16}
    (hr : ∀ r ∈ rates.toList, rateEntryValid r = true) (now : Nat)
    (report : Option TrialReport) : (k.cleared rates now report).ProfileLaw :=
  let hw := h.wholeCopy hr
  ⟨hw.given, hw.line, hw.nominal, hw.framing⟩

/-! ### RESET_CHANNEL (R166) -/

/-- R166: RESET_CHANNEL before the Trial Unit takes its next head. -/
def State.channelCleared (s : State) (c : Channel) : State :=
  let u := s.giveUpTrial c
  ({ u with pools :=
      { u.pools with
        freeSegments := u.pools.freeSegments + (u.chan c).store.held
        freeDescriptors := u.pools.freeDescriptors + (u.chan c).heldDescriptors } }.modChan c
    fun k => k.reset u.rates u.now).withdraw c

theorem resetChannel_eq (s : State) (c : Channel) :
    s.resetChannel c = (s.channelCleared c).takeHeadIf (s.inService c) := by
  unfold State.resetChannel State.channelCleared
  rfl

theorem heldDescriptors_eq (k : Chan) : k.heldDescriptors = k.descriptorsHeld := by
  unfold Chan.heldDescriptors Chan.descriptorsHeld ChannelStore.leased
  split <;> simp_all

/-- R166: the channel cleared, with the report and the unit that giving up its trial has left. -/
theorem channelCleared_of_giveUp {s : State} {c : Channel} {report : Option TrialReport}
    {abandoned : Nat} {unit : TrialUnit}
    (h : s.giveUpTrial c =
      { s.modChan c (fun k =>
          { k with
            ctl := { k.ctl with report := report }
            stats := { k.stats with abandonedTrials := abandoned } }) with
        trial := unit }) :
    s.channelCleared c =
      { s.modChan c (fun k => k.cleared s.rates s.now report) with
        trial := unit
        pools :=
          { s.pools with
            freeSegments := s.pools.freeSegments + (s.chan c).store.held
            freeDescriptors := s.pools.freeDescriptors + (s.chan c).descriptorsHeld }
        notices := (s.withdraw c).notices } := by
  unfold State.channelCleared
  rw [h]
  dsimp only
  refine State.eq_of_chan (fun d => ?_) ?_
  · by_cases hd : d = c
    · subst hd
      simp [State.withdraw, Chan.cleared, Chan.reset, State.now, Chan.wholeCopy]
    · simp [State.withdraw, State.chan_modChan_other hd]
  · simp [State.withdraw, heldDescriptors_eq, Chan.descriptorsHeld]

theorem channelCleared_eq (s : State) (c : Channel) :
    ∃ report, s.channelCleared c =
      { s.modChan c (fun k => k.cleared s.rates s.now report) with
        trial := s.unitLeft c
        pools :=
          { s.pools with
            freeSegments := s.pools.freeSegments + (s.chan c).store.held
            freeDescriptors := s.pools.freeDescriptors + (s.chan c).descriptorsHeld }
        notices := (s.withdraw c).notices } := by
  obtain ⟨report, abandoned, h⟩ := giveUpTrial_eq s c
  exact ⟨report, channelCleared_of_giveUp h⟩

/-- R166, step 7: the notices of `c` withdrawn. -/
theorem State.NoticeLaw.withdraw {s : State} (h : s.NoticeLaw) (c : Channel) :
    (s.withdraw c).NoticeLaw := by
  have hmem {n : Notice} (hn : n ∈ (s.withdraw c).notices.pending) : n ∈ s.notices.pending :=
    (List.mem_filter.1 hn).1
  exact ⟨h.once.sublist ((List.filter_sublist).map _), fun n hn => h.counts n (hmem hn),
    fun n hn => h.kinds n (hmem hn), h.credit⟩

theorem State.keeps_channelCleared (s : State) (c : Channel) : s.Keeps (s.channelCleared c) := by
  obtain ⟨report, h⟩ := channelCleared_eq s c
  have hclear := Chan.clear_cleared (s.chan c) s.rates s.now report
  generalize s.channelCleared c = u at h
  have hself : u.chan c = (s.chan c).cleared s.rates s.now report := by
    rw [h]
    exact State.chan_modChan_same s c fun k => k.cleared s.rates s.now report
  rw [← hself] at hclear
  have hothers : u.OthersAs s c := fun d hd => by
    rw [h]
    exact State.chan_modChan_other hd s fun k => k.cleared s.rates s.now report
  have hrest : u = { s with
      chans := u.chans, trial := u.trial, pools := u.pools, notices := u.notices } := by rw [h]; rfl
  have htrial : u.trial = s.unitLeft c := by rw [h]
  have hservice (t : Trial) (ht : u.trial.service = some t) : s.trial.service = some t := by
    simp only [htrial, State.unitLeft] at ht
    split at ht
    · simp at ht
    · exact ht
  have hconfig : (u.chan c).config = (s.chan c).config := by rw [hself]; rfl
  refine ⟨by rw [hrest], fun hl => ?_, fun hl => ?_, fun hl => ?_, fun d hf => ?_, fun d => ?_,
    fun _ d hm => ?_, fun hb => ?_, fun _ hp => ?_, fun hp => ?_, fun _ _ hp => ?_⟩
  · rw [hrest]
    exact ⟨hl.counter, hl.wraps⟩
  · exact (hl.withdraw c).congr (by rw [h])
  · exact ⟨hothers.forall (p := Chan.LeaseLegal) (fun _ => hclear.lease) hl.leases,
      by rw [hrest]; exact hl.counter⟩
  · by_cases hd : d = c
    · subst hd
      exact hclear.fill (by rw [hconfig]; exact hf.config)
    · rwa [hothers d hd]
  · by_cases hd : d = c
    · rw [hd, hconfig]
    · rw [hothers d hd]
  · by_cases hd : d = c
    · subst hd
      exact hclear.mode
    · rwa [hothers d hd]
  · exact hb.leave hothers htrial hclear.blocks
      (by rcases hclear.lock_cases with hl | hl <;> simp [hl])
      (by rcases hclear.lock_cases with hl | hl <;> simp [hl])
  · have hheld := State.sumChans_othersAs hothers fun k => k.store.held
    have hdesc := State.sumChans_othersAs hothers Chan.descriptorsHeld
    simp only [hclear.holds_nothing] at hheld hdesc
    have hsegments := hp.segments
    have hdescriptors := hp.descriptors
    refine ⟨hothers.forall (p := fun k => k.store.held = k.segmentsHeld)
      (fun _ => hclear.pooled.held) hp.held, hothers.forall (fun _ => hclear.pooled.dropped)
      hp.dropped, ?_, ?_⟩
    · have hu : u.pools.freeSegments = s.pools.freeSegments + (s.chan c).store.held := by rw [h]
      omega
    · have hu : u.pools.freeDescriptors =
        s.pools.freeDescriptors + (s.chan c).descriptorsHeld := by rw [h]
      omega
  · refine ⟨by rw [hrest]; exact hp.rates, hothers.forall (fun hc => ?_) hp.profiles,
      fun t ht => hp.trial t (hservice t ht)⟩
    rw [hself]
    exact hc.cleared hp.rates s.now report
  · exact ⟨hothers.forall (fun _ => hclear.period) hp.channels,
      fun t ht => hp.trial t (hservice t ht)⟩

theorem State.keeps_resetChannel (s : State) (c : Channel) : s.Keeps (s.resetChannel c) := by
  rw [resetChannel_eq]
  exact (s.keeps_channelCleared c).trans (State.keeps_takeHeadIf ..)

/-! ### The soft restart (R169) -/

/-- A device whose channels have all been reset, with the Trial Unit free and the pools whole. -/
structure State.Clear (s : State) : Prop where
  chans : ∀ c, (s.chan c).Clear
  trial : s.trial = resetTrialUnit
  pools : s.pools = resetPools

theorem State.Clear.blocks {s : State} (h : s.Clear) : s.Blocks := by
  have hlock (c : Channel) : (s.chan c).ctl.lock ≠ .queued ∧ (s.chan c).ctl.lock ≠ .trial := by
    rcases (h.chans c).lock_cases with hl | hl <;> simp [hl]
  refine ⟨fun c => (h.chans c).blocks, ?_, fun c => iff_of_false ?_ (hlock c).1,
    fun c => iff_of_false ?_ (hlock c).2⟩ <;> simp [h.trial, State.inService, resetTrialUnit]

theorem State.Clear.lock {s : State} (h : s.Clear) : s.LockLaw :=
  State.lockLaw_iff.2 ⟨fun c => (h.chans c).mode, h.blocks⟩

theorem State.Clear.pool {s : State} (h : s.Clear) : s.PoolLaw := by
  refine ⟨fun c => (h.chans c).pooled.held, fun c => (h.chans c).pooled.dropped, ?_, ?_⟩ <;>
    simp [State.sumChans, (h.chans _).holds_nothing, h.pools, resetPools]

theorem State.Clear.period {s : State} (h : s.Clear) : s.PeriodLaw :=
  ⟨fun c => (h.chans c).period, by simp [h.trial, resetTrialUnit]⟩

theorem State.noticeLaw_startedPost (s : State) (reason : StartReason) :
    (s.startedPost reason).NoticeLaw :=
  State.NoticeLaw.post (s := { s with notices := resetNotices })
    ⟨by simp [resetNotices], by simp [resetNotices], by simp [resetNotices],
      by simp [resetNotices]⟩ rfl

@[simp] theorem chan_mapChans (f : Chan → Chan) (v : Vector Chan 8) (c : Channel) :
    (mapChans f v)[c.val] = f v[c.val] := by
  fin_cases c <;> rfl

end Sys2Proof.Machine
end

section
/-! Every command completes lawfully: the resets, the requests and the events of the table, one by
one, and the step. The invariants of the device follow. -/

namespace Sys2Proof.Machine

/-! ### The soft restart (R169) -/

/-- R169: the trial report of channel `d` after a soft restart: that of its abandoned trial, if it
was in service. -/
def State.restartReport (s : State) (d : Channel) : Option TrialReport :=
  match s.trial.service with
  | some t =>
    if t.channel = d then some (t.report { outcome := .abandoned, chosen := none } s.deviceNow)
    else (s.chan d).ctl.report
  | none => (s.chan d).ctl.report

/-- The link of a restarted device: its queues, cache and receiver cleared (R169). -/
def HostLink.restarted (l : HostLink) : HostLink :=
  { l with
    receiver := l.receiver.rest, inbox := [], responses := [], cache := [], restart := .idle }

theorem chan_softRestart (s : State) (d : Channel) :
    s.softRestart.chan d = (s.chan d).cleared s.rates s.now (s.restartReport d) := by
  unfold State.softRestart State.startedPost
  simp only [State.chan_post, State.chan_mk]
  unfold State.restartReport State.abandonTrial
  rcases s.trial.service with _ | t
  · simp [Chan.cleared, Chan.reset, Chan.wholeCopy]
  · by_cases hd : t.channel = d
    · subst hd
      simp [Chan.cleared, Chan.reset, Chan.wholeCopy, State.now]
    · simp [Chan.cleared, Chan.reset, Chan.wholeCopy, State.now, hd,
        State.chan_modChan_other (Ne.symm hd)]

theorem softRestart_rest (s : State) :
    s.softRestart =
      { s with
        chans := s.softRestart.chans
        trial := resetTrialUnit
        pools := resetPools
        leaseCounter := 1
        notices :=
          { resetNotices with pending :=
            [{ startedNotice .soft with postedAt := s.time.ticks / 48 }] }
        link := s.link.restarted } := by
  unfold State.softRestart State.abandonTrial
  rcases s.trial.service with _ | t
  · rfl
  · simp
    rfl

theorem State.lawful_softRestart {s : State} (hr : s.resetAsserted = false) :
    s.Lawful s.softRestart := by
  have hrest := softRestart_rest s
  have hchan := chan_softRestart s
  generalize s.softRestart = t at hrest hchan
  have hclear : t.Clear :=
    ⟨fun c => hchan c ▸ Chan.clear_cleared .., by rw [hrest], by rw [hrest]⟩
  exact
    { pending := by rw [hrest]
      time := fun h => by rw [hrest]; exact ⟨h.counter, h.wraps⟩
      reset := fun _ => State.resetLaw_of_running (by rw [hrest]; exact hr)
      lock := fun _ _ => hclear.lock
      pool := fun _ _ _ => hclear.pool
      fill := fun h c => (hclear.chans c).fill (by rw [hchan]; exact (h c).config)
      notices := fun _ => by
        rw [hrest]
        exact ⟨by simp, by simp [startedNotice], by simp [startedNotice]; rfl, by simp [resetNotices]⟩
      link := fun _ => by
        rw [hrest]
        constructor <;> simp [HostLink.restarted]
      leases := fun _ => ⟨fun c => (hclear.chans c).lease,
        by rw [hrest]; exact ⟨le_rfl, (by decide : 1 ≤ 65535)⟩⟩
      profile := fun h => ⟨by rw [hrest]; exact h.rates, fun c => by
        rw [hchan]
        exact (h.profiles c).cleared h.rates _ _, by simp [hclear.trial, resetTrialUnit]⟩
      period := fun _ _ _ _ => hclear.period }

/-! ### The hardware reset and its end (R170) -/

@[simp] theorem chan_resetChans (lines : Vector Level 8) (c : Channel) :
    (resetChans lines)[c.val] = resetChan lines[c.val] := by
  fin_cases c <;> rfl

theorem resetRates_valid : ∀ r ∈ resetRates.toList, rateEntryValid r = true := by decide

/-- R170: the reset values, whatever the lines, the straps and the reason. -/
structure State.AtReset (t : State) (lines : Vector Level 8) : Prop where
  time : t.time = resetTime
  rates : t.rates = resetRates
  chans : t.chans = resetChans lines
  trial : t.trial = resetTrialUnit
  pools : t.pools = resetPools
  leaseCounter : t.leaseCounter = 1
  notices : ∃ reason, t.notices = { resetNotices with pending := [startedNotice reason] }
  link : t.link = resetLink t.link.selection

section AtReset

variable {t : State} {lines : Vector Level 8} (h : t.AtReset lines)

include h

theorem State.AtReset.chan (c : Channel) : t.chan c = resetChan lines[c.val] := by
  rw [State.chan, h.chans, chan_resetChans]

theorem State.AtReset.clear : t.Clear :=
  ⟨fun c => h.chan c ▸ Chan.clear_resetChan _, h.trial, h.pools⟩

theorem State.AtReset.timeLaw : t.TimeLaw := by constructor <;> rw [h.time] <;> rfl

theorem State.AtReset.fillLaw : t.FillLaw := fun c => (h.clear.chans c).fill (by rw [h.chan]; rfl)

theorem State.AtReset.noticeLaw : t.NoticeLaw := by
  obtain ⟨reason, hn⟩ := h.notices
  constructor <;> simp [hn, resetNotices, startedNotice, Slot.carries]

theorem State.AtReset.linkLaw : t.LinkLaw := by
  constructor <;> rw [h.link] <;> simp [resetLink]

theorem State.AtReset.leaseLaw : t.LeaseLaw :=
  ⟨fun c => (h.clear.chans c).lease, by rw [h.leaseCounter]; decide⟩

theorem State.AtReset.profileLaw : t.ProfileLaw :=
  ⟨by rw [h.rates]; exact resetRates_valid,
    fun c => by rw [h.chan]; constructor <;> rfl, by simp [h.trial, resetTrialUnit]⟩

end AtReset

theorem State.ResetLaw.atReset {s : State} (h : s.ResetLaw) (hr : s.resetAsserted = true) :
    ∃ lines, s.AtReset lines := by
  obtain ⟨htime, hrates, ⟨lines, hchans⟩, htrial, hpools, hlease, hnotices, hlink⟩ := h hr
  exact ⟨lines, htime, hrates, hchans, htrial, hpools, hlease, ⟨_, hnotices⟩, hlink⟩

theorem hardwareReset_eq (s : State) (cause : ResetCause) :
    s.hardwareReset cause =
      { resetAsserted := true
        resetCause := cause
        lineIn := s.lineIn
        time := resetTime
        rates := resetRates
        chans := resetChans s.lineIn
        trial := resetTrialUnit
        pools := resetPools
        leaseCounter := 1
        notices := { resetNotices with pending := [startedNotice (startReasonOf cause)] }
        link := resetLink s.link.selection
        pending := s.pending } := by
  simp [State.hardwareReset, State.startedPost, State.post, resetNotices, postTo, startedNotice,
    State.now, resetTime]

theorem State.lawful_hardwareReset (s : State) (cause : ResetCause) :
    s.Lawful (s.hardwareReset cause) := by
  rw [hardwareReset_eq]
  generalize ht : State.mk .. = t
  have hat : t.AtReset s.lineIn := by
    subst ht
    exact ⟨rfl, rfl, rfl, rfl, rfl, rfl, ⟨_, rfl⟩, rfl⟩
  exact
    { pending := by subst ht; rfl
      time := fun _ => hat.timeLaw
      reset := fun _ _ => by
        subst ht
        exact ⟨rfl, rfl, ⟨_, rfl⟩, rfl, rfl, rfl, rfl, rfl⟩
      lock := fun _ _ => hat.clear.lock
      pool := fun _ _ _ => hat.clear.pool
      fill := fun _ => hat.fillLaw
      notices := fun _ => hat.noticeLaw
      link := fun _ => hat.linkLaw
      leases := fun _ => hat.leaseLaw
      profile := fun _ => hat.profileLaw
      period := fun _ _ _ _ => hat.clear.period }

/-- R71, R170: RESET deasserted. The channels are at their reset values whatever they were; the rest
of the device is by the law of RESET. -/
theorem State.lawful_deassertReset {s : State} (hr : s.resetAsserted = true) (lsel1 lsel0 : Bool) :
    s.Lawful (s.deassertReset lsel1 lsel0) := by
  have hchan (c : Channel) : (s.deassertReset lsel1 lsel0).chan c = resetChan s.lineIn[c.val] :=
    chan_resetChans s.lineIn c
  have hclear (c : Channel) : ((s.deassertReset lsel1 lsel0).chan c).Clear :=
    hchan c ▸ Chan.clear_resetChan _
  have hall (h : s.ResetLaw) : (s.deassertReset lsel1 lsel0).Clear := by
    obtain ⟨lines, hat⟩ := h.atReset hr
    exact ⟨hclear, hat.trial, hat.pools⟩
  exact
    { pending := rfl
      time := fun h => ⟨h.counter, h.wraps⟩
      reset := fun _ => State.resetLaw_of_running rfl
      lock := fun h _ => (hall h).lock
      pool := fun h _ _ => (hall h).pool
      fill := fun _ c => (hclear c).fill (by rw [hchan]; rfl)
      notices := fun _ => State.noticeLaw_startedPost ..
      link := fun h => ⟨h.inbox, h.responses, h.cache, h.tags⟩
      leases := fun h => ⟨fun c => (hclear c).lease, h.counter⟩
      profile := fun h => ⟨h.rates, fun c => by rw [hchan]; constructor <;> rfl, h.trial⟩
      period := fun h _ _ _ => (hall h).period }

/-- R72: the raw input of a line moves; no block follows it. -/
theorem State.lawful_toggleLine (s : State) (c : Channel) : s.Lawful (s.toggleLine c) :=
  { pending := rfl
    time := fun h => ⟨h.counter, h.wraps⟩
    reset := id
    lock := fun _ h => ⟨h.channels, h.once, h.queued, h.served⟩
    pool := fun _ _ h => ⟨h.held, h.dropped, h.segments, h.descriptors⟩
    fill := id
    notices := fun h => ⟨h.once, h.counts, h.kinds, h.credit⟩
    link := fun h => ⟨h.inbox, h.responses, h.cache, h.tags⟩
    leases := fun h => ⟨h.leases, h.counter⟩
    profile := fun h => ⟨h.rates, h.profiles, h.trial⟩
    period := fun _ _ _ h => ⟨h.channels, h.trial⟩ }

/-- R72: a change of the line on a running device. -/
theorem State.lawful_lineMoved {s : State} (hr : s.resetAsserted = false) (c : Channel)
    (tick : Nat) (level : Level) :
    s.Lawful (((s.passTo c tick).toggleLine c).filterSees c level) := by
  have hpass := State.keeps_passTo s c tick
  have hruns : (s.passTo c tick).resetAsserted = false := by rw [hpass.rest]; exact hr
  exact ((hpass.lawful hr).trans (State.lawful_toggleLine _ c)).trans
    (State.workOn_modSampler rfl rfl |>.lawful (s := (s.passTo c tick).toggleLine c) hruns)

end Sys2Proof.Machine
end

section
/-! Every command completes lawfully, one by one, and with the commands the step. The invariants of
the device (O4 to O11, O57) and the completion of every command (O2) follow. -/

namespace Sys2Proof.Machine

/-! ### What the requests do -/

theorem State.workOn_serves {s t : State} {c : Channel} (h : State.WorkOn c s t)
    (hr : s.resetAsserted = false) (result : Result) (fields : List Byte) :
    s.Serves { state := t, result := result, fields := fields } := h.keeps.serves hr result fields

theorem State.serves_setRates {s : State} (hr : s.resetAsserted = false) (rates : Vector Nat 16) :
    s.Serves (s.setRates rates) := by
  unfold State.setRates
  split
  · rename_i h
    refine ⟨?_, rfl, rfl⟩
    exact
      { pending := rfl
        time := fun h => ⟨h.counter, h.wraps⟩
        reset := fun _ => State.resetLaw_of_running hr
        lock := fun _ h => ⟨h.channels, h.once, h.queued, h.served⟩
        pool := fun _ _ h => ⟨h.held, h.dropped, h.segments, h.descriptors⟩
        fill := id
        notices := fun h => ⟨h.once, h.counts, h.kinds, h.credit⟩
        link := fun h => ⟨h.inbox, h.responses, h.cache, h.tags⟩
        leases := fun h => ⟨h.leases, h.counter⟩
        profile := fun hp => ⟨List.all_eq_true.1 h, hp.profiles, hp.trial⟩
        period := fun _ _ _ h => ⟨h.channels, h.trial⟩ }
  · exact .same s _ _

theorem State.serves_acquire {s : State} (hr : s.resetAsserted = false) (c : Channel) :
    s.Serves (s.acquire c) := by
  unfold State.acquire
  split
  · exact .same s _ _
  · rename_i h
    exact (State.keeps_acquireChannel h).serves hr _ _

theorem State.serves_readStats {s : State} (hr : s.resetAsserted = false) (c : Channel)
    (clear : Bool) : s.Serves (s.readStats c clear) := by
  cases clear
  · exact .same s _ _
  · exact State.workOn_serves (s.workOn_modStats c fun _ => resetStatistics) hr _ _

theorem State.serves_takeRecords {s : State} (hr : s.resetAsserted = false) (c : Channel)
    (maxRecords maxBytes : Nat) : s.Serves (s.takeRecords c maxRecords maxBytes) := by
  unfold State.takeRecords
  dsimp only
  split
  · exact .same s _ _
  split
  · exact .same s _ _
  split
  · exact .same s _ _
  rename_i hrange hlease hqueue
  have hq : (s.chan c).store.queue ≠ [] := by simpa using hqueue
  obtain ⟨hone, hmax, hlen⟩ := grantCount_range hq (maxRecords := maxRecords) (by omega) maxBytes
  have hkeeps : s.Keeps (s.grantLease c (grantCount maxRecords maxBytes (s.chan c).store.queue)) :=
    State.keeps_grantLease (by simpa using hlease) ⟨hone, by omega⟩ hlen
  split <;> exact hkeeps.serves hr _ _

theorem State.serves_fetchBytes {s : State} (hr : s.resetAsserted = false) (c : Channel)
    (id index offset length : Nat) : s.Serves (s.fetchBytes c id index offset length) := by
  unfold State.fetchBytes
  split
  · exact .same s _ _
  · exact .same s _ _
  split
  · exact .same s _ _
  split
  · exact State.workOn_serves (s.workOn_renewLease c) hr _ _
  · exact .same s _ _

theorem current_of_nameLease {st : ChannelStore} {id : Nat} {l : Lease}
    (h : st.nameLease id = .current l) : st.lease = some l := by
  unfold ChannelStore.nameLease at h
  split at h
  · rename_i m hm
    by_cases hid : m.id = id
    · rw [if_pos hid] at h
      obtain rfl := Naming.current.inj h
      exact hm
    · rw [if_neg hid] at h
      split at h <;> simp at h
  · split at h <;> simp at h

theorem State.serves_releaseRecords {s : State} (hr : s.resetAsserted = false) (c : Channel)
    (id count : Nat) : s.Serves (s.releaseRecords c id count) := by
  unfold State.releaseRecords
  split
  · exact .same s _ _
  · exact .same s _ _
  · rename_i l h
    split
    · exact .same s _ _
    · exact State.workOn_serves (State.workOn_releaseLease (current_of_nameLease h) count) hr _ _

theorem State.serves_closeOpen {s : State} (hr : s.resetAsserted = false) (c : Channel) :
    s.Serves (s.closeOpen c) := by
  unfold State.closeOpen State.closeRequested
  split
  · exact State.workOn_serves (s.workOn_closeRecord c .close s.deviceNow) hr _ _
  · exact .same s _ _

theorem State.serves_purgeQueue {s : State} (hr : s.resetAsserted = false) (c : Channel) :
    s.Serves (s.purgeQueue c) := State.workOn_serves (s.workOn_purge c) hr _ _

theorem State.serves_addCredit {s : State} (hr : s.resetAsserted = false) (n : Nat) :
    s.Serves (s.addCredit n) :=
  ⟨State.lawful_outer (l := s.link)
    (n := { s.notices with credit := satAdd 255 s.notices.credit n }) hr id
    fun h => ⟨h.once, h.counts, h.kinds, Nat.min_le_left ..⟩, rfl, rfl⟩

/-! ### The requests -/

/-- A request that is not mutating and only reads. -/
theorem State.lawful_reads {s : State} (hr : s.resetAsserted = false)
    (hroom : s.link.responses.length < 4) (f : Frame) (fields : List Byte) :
    s.Lawful (s.executePlain f fun s => s.answerOk fields) :=
  State.lawful_executePlain hr hroom f (.same s _ _)

theorem completes_stats (s : State) : s.CompletesLawfully (execStats s) :=
  completes_channel fun f c u hr hroom => by
    unfold State.statsRequest
    split
    · exact State.lawful_executeMutating hr hroom f (State.serves_readStats hr c true)
    · exact State.lawful_executePlain hr hroom f (State.serves_readStats hr c false)
    · exact State.lawful_executePlain hr hroom f (.same u _ _)

theorem completes_restart (s : State) : s.CompletesLawfully (execRestart s) :=
  completes_device fun f u hr hroom =>
    .trans (State.lawful_link (f := fun l => { l with inbox := [], restart := .awaiting }) hr
      (.inl (by simp)) (.inr le_rfl) rfl)
      (State.lawful_respond (s := u.stopDispatch) hr hroom _ _ _)

/-! ### The events of the link, the lines and the timers -/

/-- Time has passed to `tick`, and then `f` has acted on the channels. -/
theorem State.lawful_advanced {s t : State} (hr : s.resetAsserted = false) {tick : Nat}
    (h : (s.advanceTo tick).Keeps t) : s.Lawful t :=
  ((s.keeps_advanceTo tick).trans h).lawful hr

theorem State.lawful_advanceTo {s : State} (hr : s.resetAsserted = false) (tick : Nat) :
    s.Lawful (s.advanceTo tick) := State.lawful_advanced hr (.refl _)

theorem completes_frameReceived (s : State) : s.CompletesLawfully (execFrameReceived s) :=
  completes_whileRunning fun hr => by
    split
    · exact State.lawful_finishFrame hr
    · exact .refl s

theorem completes_lengthDiscard (s : State) : s.CompletesLawfully (execLengthDiscard s) :=
  completes_whileRunning fun hr => by
    split
    · exact State.lawful_discardLength hr
    · exact .refl s

theorem completes_receiveTimeout (s : State) : s.CompletesLawfully (execReceiveTimeout s) :=
  completes_whileRunning fun hr => by
    dsimp only
    split
    · exact (State.lawful_advanceTo hr _).trans (State.lawful_discardTimeout (by simpa using hr))
    · exact .refl s

theorem completes_responseSend (s : State) : s.CompletesLawfully (execResponseSend s) :=
  completes_whileRunning fun hr => by
    split
    · exact State.lawful_sendResponse hr
    · exact .refl s

theorem completes_noticeSend (s : State) : s.CompletesLawfully (execNoticeSend s) :=
  completes_whileRunning fun hr => by
    split
    · split
      · exact State.lawful_sendNotice hr _
      · exact .refl s
    · exact .refl s

theorem completes_receivedByte (s : State) (elapsed : Nat) (b : Byte) (scsLow : Bool) :
    s.CompletesLawfully (execReceivedByte elapsed b scsLow s) :=
  completes_whileRunning fun hr => (State.lawful_advanceTo hr _).trans
    (State.lawful_linkByte (s := s.advanceTo _) (by simpa using hr) b scsLow)

theorem completes_frameSentWhole (s : State) : s.CompletesLawfully (execFrameSentWhole s) :=
  completes_whileRunning fun hr => by
    split
    · exact .refl s
    split
    · exact (State.lawful_advanceTo hr _).trans (State.lawful_frameEnded (by simpa using hr))
    · exact State.lawful_endClocked hr

theorem completes_softRestart (s : State) : s.CompletesLawfully (execSoftRestart s) :=
  completes_whileRunning fun hr => by
    split
    · exact State.lawful_softRestart hr
    · exact .refl s

theorem completes_resetDeasserted (s : State) (lsel1 lsel0 : Bool) :
    s.CompletesLawfully (execResetDeasserted lsel1 lsel0 s) := by
  refine ⟨_, rfl, ?_⟩
  split
  · rename_i hr
    exact State.lawful_deassertReset hr lsel1 lsel0
  · exact .refl s

theorem completes_lineInputChange (s : State) (c : Channel) (elapsed : Nat) :
    s.CompletesLawfully (execLineInputChange c elapsed s) := by
  refine ⟨_, rfl, ?_⟩
  split
  · rename_i hr
    exact State.lawful_lineMoved (by simpa [State.running] using hr) c _ _
  · exact State.lawful_toggleLine s c

theorem completes_filteredEdge (s : State) (c : Channel) :
    s.CompletesLawfully (execFilteredEdge c s) :=
  completes_whileRunning fun hr => by
    split
    · exact State.lawful_advanced hr (State.keeps_deliverEdge ..)
    · exact .refl s

theorem completes_gatherQuietExpiry (s : State) (c : Channel) :
    s.CompletesLawfully (execGatherQuietExpiry c s) :=
  completes_whileRunning fun hr => by
    split
    · rename_i h _
      exact State.lawful_advanced hr (State.keeps_gatherExpired (by simpa using h))
    · exact .refl s

theorem completes_rateEstimate (s : State) : s.CompletesLawfully (execRateEstimate s) :=
  completes_whileRunning fun hr => by
    split
    · rename_i t h
      split
      · exact (State.keeps_setTrial h (Trial.estimated_cases t).1 Trial.ProfileLaw.estimated
          Trial.PeriodLaw.estimated).lawful hr
      · exact .refl s
    · exact .refl s

/-- R64, R65: an evaluation chooses at most the candidate evaluated. -/
theorem completes_candidateEvaluated (s : State) :
    s.CompletesLawfully (execCandidateEvaluated s) :=
  completes_whileRunning fun hr => by
    split
    · rename_i t h
      split
      · rename_i list hlist _
        split
        · rename_i x hx
          have hmem : x ∈ list := List.mem_of_getElem? hx
          refine (State.keeps_setTrial (t' := t.evaluated x list.length) h rfl (fun ht => ?_)
            fun ht => ?_).lawful hr
          · exact ⟨ht.given, ht.rates, ht.verifyFirst, ht.candidates, fun v y hv hy =>
              Trial.evaluated_chosen hv hy ▸ ht.candidates list hlist x hmem⟩
          · exact ⟨ht.verifyFirst, ht.candidates, fun v y hv hy =>
              Trial.evaluated_chosen hv hy ▸ ht.candidates list hlist x hmem⟩
        · exact .refl s
      · exact .refl s
    · exact .refl s

theorem completes_trialComplete (s : State) : s.CompletesLawfully (execTrialComplete s) :=
  completes_whileRunning fun hr => by
    split
    · rename_i t h
      split
      · rename_i v hv
        exact (State.keeps_handBack h hv).lawful hr
      · exact .refl s
    · exact .refl s

theorem completes_falseStart (s : State) (c : Channel) : s.CompletesLawfully (execFalseStart c s) :=
  completes_whileRunning fun hr => by
    dsimp only
    split
    · rename_i t per h
      split
      · exact State.lawful_advanced hr (State.workOn_falseStart (by simp [h]) t).keeps
      · exact .refl s
    all_goals exact .refl s

@[simp] theorem sampler_closing (s : State) (c d : Channel) (cause : Cause) (t : BitVec 32) :
    ((s.closing c cause t).chan d).sampler = (s.chan d).sampler := by
  rcases hr : (s.chan c).openRecord? with _ | r
  · rw [State.closing_of_none hr]
  · rw [State.closing_of_open hr]
    by_cases hd : d = c
    · subst hd; simp
    · simp [State.chan_modChan_other hd]

/-- R92: a gap expiry leaves the sampler alone. -/
@[simp] theorem sampler_takeGap (s : State) (c : Channel) (x : Instant) :
    ((s.takeGap c x).chan c).sampler = (s.chan c).sampler := by
  unfold State.takeGap
  dsimp only
  split
  · simp
  · simp
  · split
    · simp [boundaryFound_eq]
    · simp [boundaryFound_eq]
    · simp
  · simp [closeRecord_eq]

theorem decode_takeHeldGap (s : State) (c : Channel) :
    ((s.takeHeldGap c).chan c).sampler.decode = (s.chan c).sampler.decode := by
  unfold State.takeHeldGap
  split
  · split <;> simp
  · rfl

theorem completes_characterEvent (s : State) (c : Channel) :
    s.CompletesLawfully (execCharacterEvent c s) :=
  completes_whileRunning fun hr => by
    dsimp only
    split
    · rename_i t per h
      split
      · split
        · exact State.lawful_advanced hr (State.workOn_holdSpace (by simp [h])).keeps
        · exact State.lawful_advanced hr ((State.workOn_takeHeldGap ..).trans
            (State.workOn_characterEvent (by rw [decode_takeHeldGap]; simp [h]) ..)).keeps
      · exact .refl s
    · rename_i t per h
      split
      · split
        · exact ((State.workOn_takeHeldGap ..).trans
            (State.workOn_characterEvent (by rw [decode_takeHeldGap]; simp [h]) ..)).lawful hr
        · exact .refl s
      · exact .refl s
    all_goals exact .refl s

theorem State.lawful_breakFrom {s : State} (hr : s.resetAsserted = false) {c : Channel} (t per : Nat)
    (h : (s.chan c).sampler.decode ≠ .stopped) : s.Lawful (s.breakFrom c t per) := by
  unfold State.breakFrom
  dsimp only
  split
  · exact State.lawful_advanced hr ((State.workOn_takeHeldGap ..).trans
      (State.workOn_breakEvent (by rw [decode_takeHeldGap]; simpa using h) _)).keeps
  · exact .refl s

theorem completes_breakEvent (s : State) (c : Channel) : s.CompletesLawfully (execBreakEvent c s) :=
  completes_whileRunning fun hr => by
    split
    · rename_i h
      exact State.lawful_breakFrom hr _ _ (by simp [h])
    · rename_i h
      exact State.lawful_breakFrom hr _ _ (by simp [h])
    all_goals exact .refl s

theorem completes_gapExpiry (s : State) (c : Channel) : s.CompletesLawfully (execGapExpiry c s) :=
  completes_whileRunning fun hr => by
    dsimp only
    split
    · exact State.lawful_advanced hr (State.workOn_takeGap ..).keeps
    · exact .refl s

theorem completes_holdoverExpiry (s : State) (c : Channel) :
    s.CompletesLawfully (execHoldoverExpiry c s) :=
  completes_whileRunning fun hr => by
    split
    · rename_i h _
      exact State.lawful_advanced hr
        (State.workOn_releaseChannel (by simp [h, LockState.decoding]) _).keeps
    · exact .refl s

theorem completes_dormantExpiry (s : State) (c : Channel) :
    s.CompletesLawfully (execDormantExpiry c s) :=
  completes_whileRunning fun hr => by
    split
    · rename_i h _
      exact State.lawful_advanced hr (State.workOn_releaseChannel (by simpa using h) _).keeps
    · exact .refl s

theorem completes_leaseExpiry (s : State) (c : Channel) :
    s.CompletesLawfully (execLeaseExpiry c s) :=
  completes_whileRunning fun hr => by
    split
    · rename_i h
      exact State.lawful_advanced hr (State.workOn_expireLease (by simpa using h)).keeps
    · exact .refl s

/-! ### Every command -/

theorem exec_completesLawfully (i : Instr) (s : State) : s.CompletesLawfully (exec i s) := by
  cases i with
  | hello | time | getRates | pool =>
    exact completes_device fun f u hr hroom => State.lawful_executePlain hr hroom f (.same u _ _)
  | getConfig | getGiven | status =>
    exact completes_channel fun f c u hr hroom =>
      State.lawful_executePlain hr hroom f (.same u _ _)
  | setRates =>
    exact completes_device fun f u hr hroom =>
      State.lawful_executeMutating hr hroom f (State.serves_setRates hr _)
  | configure =>
    exact completes_channel fun f c u hr hroom =>
      State.lawful_executeMutating hr hroom f (State.serves_configure hr c _)
  | setGiven =>
    exact completes_channel fun f c u hr hroom =>
      State.lawful_executeMutating hr hroom f (State.serves_setGiven hr c _)
  | acquire =>
    exact completes_channel fun f c u hr hroom =>
      State.lawful_executeMutating hr hroom f (State.serves_acquire hr c)
  | stats => exact completes_stats s
  | take =>
    exact completes_channel fun f c u hr hroom =>
      State.lawful_executeMutating hr hroom f (State.serves_takeRecords hr c _ _)
  | fetch =>
    exact completes_channel fun f c u hr hroom =>
      State.lawful_executePlain hr hroom f (State.serves_fetchBytes hr c _ _ _ _)
  | release =>
    exact completes_channel fun f c u hr hroom =>
      State.lawful_executeMutating hr hroom f (State.serves_releaseRecords hr c _ _)
  | close =>
    exact completes_channel fun f c u hr hroom =>
      State.lawful_executeMutating hr hroom f (State.serves_closeOpen hr c)
  | purge =>
    exact completes_channel fun f c u hr hroom =>
      State.lawful_executeMutating hr hroom f (State.serves_purgeQueue hr c)
  | credit =>
    exact completes_device fun f u hr hroom =>
      State.lawful_executeMutating hr hroom f (State.serves_addCredit hr _)
  | resetChannel =>
    exact completes_channel fun f c u hr hroom =>
      State.lawful_executeMutating hr hroom f ((u.keeps_resetChannel c).serves hr _ _)
  | restart => exact completes_restart s
  | unknownKind =>
    exact completes_takeRequest fun f u hr hroom => State.lawful_respond hr hroom _ _ _
  | frameReceived => exact completes_frameReceived s
  | lengthDiscard => exact completes_lengthDiscard s
  | receiveTimeout => exact completes_receiveTimeout s
  | responseSend => exact completes_responseSend s
  | noticeSend => exact completes_noticeSend s
  | softRestart => exact completes_softRestart s
  | hardwareReset cause => exact ⟨_, rfl, s.lawful_hardwareReset cause⟩
  | timeWrap =>
    exact completes_whileRunning (f := fun s => s.advanceTo s.time.wrapTick) fun hr =>
      State.lawful_advanceTo hr _
  | lineInputChange c elapsed => exact completes_lineInputChange s c elapsed
  | filteredEdge c => exact completes_filteredEdge s c
  | gatherQuietExpiry c => exact completes_gatherQuietExpiry s c
  | trialStart => exact completes_whileRunning fun hr =>
      s.keeps_takeHead.lawful hr
  | rateEstimate => exact completes_rateEstimate s
  | candidateEvaluated => exact completes_candidateEvaluated s
  | trialComplete => exact completes_trialComplete s
  | falseStart c => exact completes_falseStart s c
  | characterEvent c => exact completes_characterEvent s c
  | breakEvent c => exact completes_breakEvent s c
  | gapExpiry c => exact completes_gapExpiry s c
  | holdoverExpiry c => exact completes_holdoverExpiry s c
  | dormantExpiry c => exact completes_dormantExpiry s c
  | leaseExpiry c => exact completes_leaseExpiry s c
  | receivedByte elapsed b scsLow => exact completes_receivedByte s elapsed b scsLow
  | frameSentWhole => exact completes_frameSentWhole s
  | resetDeasserted lsel1 lsel0 => exact completes_resetDeasserted s lsel1 lsel0

/-! ### The step -/

/-- The commands waiting matter to no law. -/
theorem State.lawful_step {s t : State} (h : step s = .next t) :
    { s with pending := t.pending }.Lawful t := by
  unfold step at h
  split at h
  · rename_i i rest hp
    obtain ⟨u, hu, hlaw⟩ := exec_completesLawfully i { s with pending := rest }
    rw [h] at hu
    obtain rfl := Host.Outcome.next.inj hu
    rw [hlaw.pending]
    exact hlaw
  · obtain rfl := Host.Outcome.next.inj h
    unfold State.tick
    split
    · rename_i hr
      have hlaw := State.lawful_advanceTo (s := s) (by simpa [State.running] using hr) (s.now + 1)
      have hp : (s.advanceBy 1).pending = s.pending := hlaw.pending
      rw [hp]
      exact hlaw
    · exact .refl s

/-- Settles O2: every command completes. -/
theorem everyCommandCompletes : Obligations.EveryCommandCompletes := fun i s =>
  let ⟨t, h, hlaw⟩ := exec_completesLawfully i s
  ⟨t, h, hlaw.pending⟩

/-- Settles O4. -/
theorem stepKeepsTimeLaw : Obligations.StepKeepsTimeLaw := fun _ _ h hs =>
  (State.lawful_step hs).time ⟨h.counter, h.wraps⟩

/-- Settles O57. -/
theorem stepKeepsResetLaw : Obligations.StepKeepsResetLaw := fun _ _ h hs =>
  (State.lawful_step hs).reset h

/-- Settles O5. -/
theorem stepKeepsLockLaw : Obligations.StepKeepsLockLaw := fun _ _ hr h hs =>
  (State.lawful_step hs).lock hr ⟨h.channels, h.once, h.queued, h.served⟩

/-- Settles O6. -/
theorem stepKeepsPoolLaw : Obligations.StepKeepsPoolLaw := fun _ _ hr h hp hs =>
  (State.lawful_step hs).pool hr ⟨h.channels, h.once, h.queued, h.served⟩
    ⟨hp.held, hp.dropped, hp.segments, hp.descriptors⟩

/-- Settles O7. -/
theorem stepKeepsFillLaw : Obligations.StepKeepsFillLaw := fun _ _ h hs =>
  (State.lawful_step hs).fill h

/-- Settles O8. -/
theorem stepKeepsNoticeLaw : Obligations.StepKeepsNoticeLaw := fun _ _ h hs =>
  (State.lawful_step hs).notices ⟨h.once, h.counts, h.kinds, h.credit⟩

/-- Settles O9. -/
theorem stepKeepsLinkLaw : Obligations.StepKeepsLinkLaw := fun _ _ h hs =>
  (State.lawful_step hs).link ⟨h.inbox, h.responses, h.cache, h.tags⟩

/-- Settles O10. -/
theorem stepKeepsLeaseLaw : Obligations.StepKeepsLeaseLaw := fun _ _ h hs =>
  (State.lawful_step hs).leases ⟨h.leases, h.counter⟩

/-- Settles O11. -/
theorem stepKeepsProfileLaw : Obligations.StepKeepsProfileLaw :=
  ⟨fun _ _ h hs => (State.lawful_step hs).profile ⟨h.rates, h.profiles, h.trial⟩,
    fun _ _ hr hl hp hq hs => (State.lawful_step hs).period hr
      ⟨hl.channels, hl.once, hl.queued, hl.served⟩ ⟨hp.rates, hp.profiles, hp.trial⟩
      ⟨hq.channels, hq.trial⟩⟩

end Sys2Proof.Machine
end

section
/-! The step and the requests in general: what runs, what RESET holds back, how a row of the request
table is refused, retransmitted or left waiting, and the reply cache. -/

namespace Sys2Proof.Machine

/-! ### The step and RESET -/

/-- Settles O1. -/
theorem stepRunsFrontCommand : Obligations.StepRunsFrontCommand := fun s i rest h => by
  simp only [step, h]

theorem takeRequest_asserted {s : State} (h : s.resetAsserted = true) (i : Instr)
    (handle : Frame → State → State) : s.takeRequest i handle = .next s :=
  whileRunning_asserted h _

/-- Settles O3: every other command runs behind the same gate. -/
theorem nothingHappensWhileResetIsAsserted : Obligations.NothingHappensWhileResetIsAsserted := by
  unfold Obligations.NothingHappensWhileResetIsAsserted
  intro i s hr hreset hend hline
  cases i <;> simp only [exec]
  case hardwareReset cause => exact absurd rfl (hreset cause)
  case resetDeasserted a b => exact absurd rfl (hend a b)
  case lineInputChange c e => exact absurd rfl (hline c e)
  case hello | time | setRates | getRates | configure | getConfig | setGiven | getGiven | acquire |
      status | stats | pool | take | fetch | release | close | purge | credit | resetChannel |
      restart | unknownKind =>
    exact takeRequest_asserted hr _ _
  all_goals exact whileRunning_asserted hr _

theorem State.atReset_reset :
    State.reset.AtReset #v[.high, .high, .high, .high, .high, .high, .high, .high] :=
  ⟨rfl, rfl, rfl, rfl, rfl, rfl, ⟨_, rfl⟩, rfl⟩

/-- Settles O12: every block stands at its reset value. -/
theorem resetObeysEveryLaw : Obligations.ResetObeysEveryLaw :=
  have h := State.atReset_reset
  ⟨State.resetLaw_of_running rfl, h.timeLaw, h.clear.lock, h.clear.pool, h.fillLaw, h.noticeLaw,
    h.linkLaw, h.leaseLaw, h.profileLaw, h.clear.period⟩

/-! ### The rows of the request table (R174, R179) -/

theorem requestOf_row {row : RequestRow} (h : row ∈ requestTable) :
    requestOf row.kind = row.command := by
  revert row
  decide

/-- R174: a device row is carried out as a device request of its length; a mutating one through the
reply cache. -/
theorem exec_deviceRow {row : RequestRow} (h : row ∈ requestTable) (hd : row.device = true) :
    ∃ go : Frame → State → State,
      (∀ s, exec row.command s =
        s.takeRequest row.command fun f s => s.deviceRequest f row.length fun s => go f s) ∧
      ∀ f, row.mutating f = true →
        ∃ run : State → Reply, ∀ s, go f s = s.executeMutating f run := by
  simp only [requestTable, List.mem_cons, List.not_mem_nil, or_false] at h
  rcases h with rfl | rfl | rfl | rfl | rfl | rfl | rfl | rfl | rfl | rfl | rfl | rfl | rfl | rfl |
    rfl | rfl | rfl | rfl | rfl | rfl
  all_goals simp only [Bool.false_eq_true] at hd
  all_goals refine ⟨_, fun _ => rfl, fun _ hm => ?_⟩
  all_goals simp only [RequestRow.mutating, Bool.false_eq_true] at hm
  all_goals exact ⟨_, fun _ => rfl⟩

/-- R174: a channel row is carried out as a channel request of its length; a mutating one through
the reply cache. -/
theorem exec_channelRow {row : RequestRow} (h : row ∈ requestTable) (hd : row.device = false) :
    ∃ go : Frame → Channel → State → State,
      (∀ s, exec row.command s =
        s.takeRequest row.command fun f s => s.channelRequest f row.length fun c s => go f c s) ∧
      ∀ f, row.mutating f = true →
        ∃ run : Channel → State → Reply, ∀ c s, go f c s = s.executeMutating f (run c) := by
  simp only [requestTable, List.mem_cons, List.not_mem_nil, or_false] at h
  rcases h with rfl | rfl | rfl | rfl | rfl | rfl | rfl | rfl | rfl | rfl | rfl | rfl | rfl | rfl |
    rfl | rfl | rfl | rfl | rfl | rfl
  all_goals simp only [Bool.true_eq_false] at hd
  all_goals refine ⟨_, fun _ => rfl, fun f hm => ?_⟩
  case inr.inr.inr.inr.inr.inr.inr.inr.inr.inr.inl =>
    exact ⟨_, fun c s => statsRequest_clear (of_decide_eq_true hm) s c⟩
  all_goals simp only [RequestRow.mutating, Bool.false_eq_true] at hm
  all_goals exact ⟨_, fun _ _ => rfl⟩

/-- R174: every row is a request. -/
theorem exec_row {row : RequestRow} (h : row ∈ requestTable) :
    ∃ handle, ∀ s, exec row.command s = s.takeRequest row.command handle := by
  rcases hd : row.device with _ | _
  · obtain ⟨go, hgo, -⟩ := exec_channelRow h hd
    exact ⟨_, hgo⟩
  · obtain ⟨go, hgo, -⟩ := exec_deviceRow h hd
    exact ⟨_, hgo⟩

theorem exec_unknownKind (s : State) : exec .unknownKind s = execUnknownKind s := rfl

/-- Settles O18: a request that waits is not found at the inbox head. -/
theorem requestsWaitInTheInbox : Obligations.RequestsWaitInTheInbox := by
  unfold Obligations.RequestsWaitInTheInbox
  intro s h
  have hnone (i : Instr) : s.requestFor i = none := by
    rw [State.requestFor, if_neg]
    rintro ⟨hidle, hroom⟩
    exact h.elim (fun hfull => absurd hroom (Nat.not_lt.2 hfull)) fun hr => hr hidle
  refine ⟨fun row hrow => ?_, by rw [exec_unknownKind]; exact takeRequest_none (hnone _) _⟩
  obtain ⟨handle, hexec⟩ := exec_row hrow
  rw [hexec, takeRequest_none (hnone _)]

/-! ### The link checks (R174) -/

theorem channelOfField_eq_none {b : Byte} (h : ¬b.toNat < 8) : channelOfField b = none := dif_neg h

theorem requestOf_unlisted {kind : Byte} (h : ∀ row ∈ requestTable, kind ≠ row.kind) :
    requestOf kind = .unknownKind := by
  revert kind
  decide

/-- Settles O17: the two refusals of the link checks, then the kind of no row. -/
theorem misshapenRequestsAreRefused : Obligations.MisshapenRequestsAreRefused := by
  unfold Obligations.MisshapenRequestsAreRefused
  refine ⟨fun row hrow s f rest htake hkind => ?_, fun s f rest htake hkind => ?_⟩
  · have hrequest : requestOf f.kind = row.command := by rw [hkind, requestOf_row hrow]
    rcases hd : row.device with _ | _
    · obtain ⟨go, hexec, -⟩ := exec_channelRow hrow hd
      rw [hexec, takeRequest_of_canTake htake hrequest]
      refine ⟨fun hlength => ?_, fun hlength hsuits => ?_⟩
      · rw [State.channelRequest, if_pos hlength, refuseRequest_popInbox htake, Result.code]
      · have hchannel : ¬f.channel.toNat < 8 := by simpa [RequestRow.suits, hd] using hsuits
        rw [State.channelRequest, if_neg (by simpa using hlength),
          channelOfField_eq_none hchannel]
        exact congrArg _ (refuseRequest_popInbox htake .badChannel)
    · obtain ⟨go, hexec, -⟩ := exec_deviceRow hrow hd
      rw [hexec, takeRequest_of_canTake htake hrequest]
      refine ⟨fun hlength => ?_, fun hlength hsuits => ?_⟩
      · rw [State.deviceRequest, if_pos hlength, refuseRequest_popInbox htake, Result.code]
      · have hchannel : f.channel ≠ 0xFF#8 := by simpa [RequestRow.suits, hd] using hsuits
        rw [deviceRequest_badChannel hlength hchannel, refuseRequest_popInbox htake, Result.code]
  · rw [exec_unknownKind, execUnknownKind, takeRequest_of_canTake htake (requestOf_unlisted hkind)]
    simp [State.respond, State.popInbox, State.modLink, htake.head, Result.code]

/-! ### The reply cache (R176) -/

/-- Settles O19: a mutating row answers from the cache before it is executed. -/
theorem retransmissionIsNotExecutedAgain : Obligations.RetransmissionIsNotExecutedAgain := by
  unfold Obligations.RetransmissionIsNotExecutedAgain
  intro row hrow s f rest e htake hkind hlength hsuits hmutating hn he htag hekind hechannel hecheck
  have hrequest : requestOf f.kind = row.command := by rw [hkind, requestOf_row hrow]
  have hcached (run : State → Reply) := executeMutating_retransmitted_popInbox htake hn he htag
    hekind hechannel hecheck run
  rcases hd : row.device with _ | _
  · obtain ⟨go, hexec, hgo⟩ := exec_channelRow hrow hd
    obtain ⟨run, hrun⟩ := hgo f hmutating
    have hchannel : f.channel.toNat < 8 := by simpa [RequestRow.suits, hd] using hsuits
    have hc : f.channel = BitVec.ofNat 8 (⟨f.channel.toNat, hchannel⟩ : Channel).val := by simp
    rw [hexec, takeRequest_channel htake hrequest hlength hc, hrun, hcached]
  · obtain ⟨go, hexec, hgo⟩ := exec_deviceRow hrow hd
    obtain ⟨run, hrun⟩ := hgo f hmutating
    have hchannel : f.channel = 0xFF#8 := by simpa [RequestRow.suits, hd] using hsuits
    rw [hexec, takeRequest_device htake hrequest hlength hchannel, hrun, hcached]

theorem filter_other_tags {cache : List CacheEntry} {tag : Byte}
    (h : ∀ e ∈ cache, e.tag ≠ tag) :
    (cache.filter fun e => decide (e.tag ≠ tag)) = cache :=
  List.filter_eq_self.2 fun e he => decide_eq_true (h e he)

/-- Settles O20: by what is left of the cache once the entry of the tag is out. -/
theorem cacheEntersNewestResponse : Obligations.CacheEntersNewestResponse := by
  unfold Obligations.CacheEntersNewestResponse
  intro cache f body
  refine ⟨fun hnew hroom => ?_, fun hnew hfull => ?_, ?_⟩
  · simp only [cacheAfter, filter_other_tags hnew, if_pos hroom, cacheEntryOf]
  · simp only [cacheAfter, filter_other_tags hnew, hfull, lt_irrefl, if_false, List.drop_one,
      cacheEntryOf]
  · rintro before e behind rfl htag hn hlen
    simp only [List.map_append, List.map_cons, List.nodup_append, List.nodup_cons, List.mem_map,
      List.mem_cons] at hn
    obtain ⟨-, ⟨hbehind, -⟩, hbefore⟩ := hn
    have hb : (before.filter fun e => decide (e.tag ≠ f.tag)) = before :=
      filter_other_tags fun d hd he => hbefore d.tag ⟨d, hd, rfl⟩ e.tag (.inl rfl) (he.trans htag.symm)
    have ha : (behind.filter fun e => decide (e.tag ≠ f.tag)) = behind :=
      filter_other_tags fun d hd he => hbehind ⟨d, hd, he.trans htag.symm⟩
    have hshort : (before ++ behind).length < 8 := by
      simp only [List.length_append, List.length_cons] at hlen ⊢
      omega
    simp only [cacheAfter, List.filter_append, List.filter_cons, hb, ha, htag, ne_eq,
      not_true_eq_false, decide_false, Bool.false_eq_true, if_false, if_pos hshort, cacheEntryOf]

end Sys2Proof.Machine
end

section
/-! Records as bytes: where each field of an encoded record stands, and what is read back from it
(R157, R161, R179 to R181). -/

namespace Sys2Proof.Machine

/-! ### Fields of a body made of parts -/

theorem fieldBytes_append_right {a b : List Byte} {o : Nat} (h : a.length ≤ o) (n : Nat) :
    fieldBytes (a ++ b) o n = fieldBytes b (o - a.length) n := by
  simp [fieldBytes, List.drop_append, List.drop_eq_nil_of_le h]

theorem fieldBytes_append_left {a b : List Byte} {o n : Nat} (h : o + n ≤ a.length) :
    fieldBytes (a ++ b) o n = fieldBytes a o n := by
  rw [fieldBytes, fieldBytes, List.drop_append_of_le_length (by omega),
    List.take_append_of_le_length (by simp; omega)]

theorem fieldBytes_whole {a : List Byte} {n : Nat} (h : a.length = n) : fieldBytes a 0 n = a := by
  simp [fieldBytes, ← h]

theorem field_append_right {a b : List Byte} {o : Nat} (h : a.length ≤ o) (n : Nat) :
    field (a ++ b) o n = field b (o - a.length) n :=
  congrArg leValue (fieldBytes_append_right h n)

theorem field_append_left {a b : List Byte} {o n : Nat} (h : o + n ≤ a.length) :
    field (a ++ b) o n = field a o n :=
  congrArg leValue (fieldBytes_append_left h)

theorem field_le (n v : Nat) : field (le n v) 0 n = v % 256 ^ n := by
  rw [field, fieldBytes_whole (length_le n v), leValue_le_mod]

/-- A part of a body is read as it would be read by itself. -/
theorem fieldBytes_within {b x : List Byte} {o m i n : Nat} (h : fieldBytes b o m = x)
    (hi : i + n ≤ m) : fieldBytes b (o + i) n = fieldBytes x i n := by
  rw [← h]
  simp only [fieldBytes, List.drop_take, List.take_take, List.drop_drop]
  rw [min_eq_left (by omega)]

theorem field_within {b x : List Byte} {o m i n : Nat} (h : fieldBytes b o m = x)
    (hi : i + n ≤ m) : field b (o + i) n = field x i n :=
  congrArg leValue (fieldBytes_within h hi)

@[simp] theorem Parity.code_mod (p : Parity) : p.code % 256 = p.code := by cases p <;> rfl
@[simp] theorem Polarity.code_mod (p : Polarity) : p.code % 256 = p.code := by cases p <;> rfl
@[simp] theorem FramingMode.code_mod (m : FramingMode) : m.code % 256 = m.code := by
  cases m <;> rfl
@[simp] theorem Mode.code_mod (m : Mode) : m.code % 256 = m.code := by cases m <;> rfl
@[simp] theorem Bool.toNat_mod_byte (b : Bool) : b.toNat % 256 = b.toNat := by cases b <;> rfl

/-! ### The configuration record -/

theorem ChannelConfig.fields_encode (k : ChannelConfig) :
    let b := k.encode
    b.length = 29 ∧ field b 0 1 = (if k.mode = .off then 0 else 1) ∧
    field b 1 1 = k.glitchLimit % 256 ∧ field b 2 2 = k.gatherTarget % 65536 ∧
    field b 4 2 = k.gatherQuietMs % 65536 ∧ field b 6 1 = k.minCharacters % 256 ∧
    field b 7 2 = k.candidateBudget % 65536 ∧ field b 9 1 = k.retryLimit % 256 ∧
    field b 10 1 = k.tolerance % 256 ∧ field b 11 2 = k.windowLength % 65536 ∧
    field b 13 2 = k.errorThreshold % 65536 ∧ field b 15 2 = k.holdoverMs % 65536 ∧
    field b 17 2 = k.dormantS % 65536 ∧ field b 19 2 = k.segmentCap % 65536 ∧
    field b 21 2 = k.highMark % 65536 ∧ field b 23 2 = k.lowMark % 65536 ∧
    field b 25 1 = (if k.holdEnable then 1 else 0) ∧
    field b 26 1 = (if k.holdPolarity = .activeLow then 0 else 1) ∧
    field b 27 2 = k.leaseTimeoutMs % 65536 := by
  have hmode : k.mode.code % 256 = if k.mode = .off then 0 else 1 := by cases k.mode <;> rfl
  have henable : k.holdEnable.toNat % 256 = if k.holdEnable then 1 else 0 := by
    cases k.holdEnable <;> rfl
  have hpolarity : k.holdPolarity.code % 256 = if k.holdPolarity = .activeLow then 0 else 1 := by
    cases k.holdPolarity <;> rfl
  rw [← hmode, ← henable, ← hpolarity]
  simp only [ChannelConfig.encode, field_append_right, field_append_left, field_le, length_le,
    List.length_append, Nat.reduceAdd, Nat.reduceSub, Nat.reduceLeDiff, Nat.reducePow, le_refl,
    and_self]

theorem modeOfCode_code (m : Mode) : modeOfCode (if m = .off then 0 else 1) = some m := by
  cases m <;> rfl

theorem flagOfCode_toNat (b : Bool) : flagOfCode (if b then 1 else 0) = some b := by
  cases b <;> rfl

theorem holdPolarityOfCode_code (p : HoldPolarity) :
    holdPolarityOfCode (if p = .activeLow then 0 else 1) = some p := by
  cases p <;> rfl

theorem ChannelConfig.Fits.of_valid {k : ChannelConfig} (h : k.valid = true) : k.Fits := by
  simp only [ChannelConfig.valid, Bool.and_eq_true, decide_eq_true_eq] at h
  constructor <;> omega

/-- R157: what CONFIGURE reads from a record that fits its fields. -/
theorem parseConfig_encode {k : ChannelConfig} (h : k.Fits) :
    parseConfig k.encode = if k.valid then some k else none := by
  obtain ⟨-, f0, f1, f2, f4, f6, f7, f9, f10, f11, f13, f15, f17, f19, f21, f23, f25, f26, f27⟩ :=
    k.fields_encode
  rw [parseConfig, f0, f25, f26, modeOfCode_code, flagOfCode_toNat, holdPolarityOfCode_code]
  simp only [f1, f2, f4, f6, f7, f9, f10, f11, f13, f15, f17, f19, f21, f23, f27,
    Nat.mod_eq_of_lt h.glitchLimit, Nat.mod_eq_of_lt h.gatherTarget,
    Nat.mod_eq_of_lt h.gatherQuietMs, Nat.mod_eq_of_lt h.minCharacters,
    Nat.mod_eq_of_lt h.candidateBudget, Nat.mod_eq_of_lt h.retryLimit,
    Nat.mod_eq_of_lt h.tolerance, Nat.mod_eq_of_lt h.windowLength,
    Nat.mod_eq_of_lt h.errorThreshold, Nat.mod_eq_of_lt h.holdoverMs,
    Nat.mod_eq_of_lt h.dormantS, Nat.mod_eq_of_lt h.segmentCap, Nat.mod_eq_of_lt h.highMark,
    Nat.mod_eq_of_lt h.lowMark, Nat.mod_eq_of_lt h.leaseTimeoutMs]

theorem parseConfig_encode_valid {k : ChannelConfig} (h : k.valid = true) :
    parseConfig k.encode = some k := by
  rw [parseConfig_encode (.of_valid h), if_pos h]

/-- Settles O13. -/
theorem configurationRecordRoundTrip : Obligations.ConfigurationRecordRoundTrip := fun k h =>
  ⟨k.fields_encode.1, parseConfig_encode_valid h⟩

theorem modeOfCode_unlisted {v : Nat} (h : 1 < v) : modeOfCode v = none := by
  match v, h with
  | _ + 2, _ => rfl

theorem holdPolarityOfCode_unlisted {v : Nat} (h : 1 < v) : holdPolarityOfCode v = none := by
  match v, h with
  | _ + 2, _ => rfl

/-- R157: a record with an unlisted code is not read. -/
theorem parseConfig_unlisted {b : List Byte}
    (h : 1 < field b 0 1 ∨ 1 < field b 25 1 ∨ 1 < field b 26 1) : parseConfig b = none := by
  unfold parseConfig
  split
  · rename_i hmode henable hpolarity
    rcases h with h | h | h
    · simp [modeOfCode_unlisted h] at hmode
    · simp [flagOfCode_eq_none (by omega : field b 25 1 ≠ 0) (by omega)] at henable
    · simp [holdPolarityOfCode_unlisted h] at hpolarity
  · rfl

/-! ### The parts of a profile (R180) -/

theorem LineFields.fields_encode (l : LineFields) :
    l.encode.length = 5 ∧ l.At l.encode 0 := by
  have hrate : l.rate.val % 256 = l.rate.val := Nat.mod_eq_of_lt (by omega)
  refine ⟨by simp [LineFields.encode], ?_⟩
  constructor <;>
  simp only [LineFields.encode, field_append_right, field_append_left, field_le, length_le,
    List.length_append, Nat.reduceAdd, Nat.reduceSub, Nat.reduceLeDiff, Nat.reducePow, le_refl,
    Nat.zero_add, Parity.code_mod, Polarity.code_mod, hrate]

theorem LineFields.At.within {l : LineFields} {b : List Byte} {o : Nat}
    (h : fieldBytes b o 5 = l.encode) : l.At b o := by
  have hl := l.fields_encode.2
  refine ⟨?_, ?_, ?_, ?_, ?_⟩
  · exact (field_within (i := 0) h (by decide)).trans hl.rate
  · exact (field_within h (by decide)).trans hl.dataBits
  · exact (field_within h (by decide)).trans hl.parity
  · exact (field_within h (by decide)).trans hl.stopBits
  · exact (field_within h (by decide)).trans hl.polarity

theorem length_delimiterSlots (ds : List Byte) : (delimiterSlots ds).length = 4 := by
  simp [delimiterSlots]

theorem FramingFields.fields_encode (f : FramingFields) :
    f.encode.length = 14 ∧ f.At f.encode 0 := by
  have hkept : f.delimiterKept.toNat % 256 = if f.delimiterKept then 1 else 0 := by
    cases f.delimiterKept <;> rfl
  have hpresent : f.startChar.isSome.toNat % 256 = if f.startChar = none then 0 else 1 := by
    cases f.startChar <;> rfl
  refine ⟨by simp [FramingFields.encode, length_delimiterSlots], ?_⟩
  constructor <;>
  simp only [FramingFields.encode, field_append_right, field_append_left, field_le, length_le,
    fieldBytes_append_right, fieldBytes_append_left, length_delimiterSlots, List.length_singleton,
    List.length_append, Nat.reduceAdd, Nat.reduceSub, Nat.reduceLeDiff, Nat.reducePow, le_refl,
    Nat.zero_add, FramingMode.code_mod, hkept, hpresent,
    fieldBytes_whole (length_delimiterSlots _), fieldBytes_whole (List.length_singleton)]
  case delimiters => rfl

theorem FramingFields.At.within {f : FramingFields} {b : List Byte} {o : Nat}
    (h : fieldBytes b o 14 = f.encode) : f.At b o := by
  have hf := f.fields_encode.2
  refine ⟨?_, ?_, ?_, ?_, ?_, ?_, ?_, ?_, ?_⟩
  · exact (field_within (i := 0) h (by decide)).trans hf.mode
  · exact (field_within h (by decide)).trans hf.gapLimit
  · exact (field_within h (by decide)).trans hf.count
  · exact (fieldBytes_within h (by decide)).trans hf.delimiters
  · exact (field_within h (by decide)).trans hf.kept
  · exact (field_within h (by decide)).trans hf.present
  · exact (fieldBytes_within h (by decide)).trans hf.startChar
  · exact (field_within h (by decide)).trans hf.recordLength
  · exact (field_within h (by decide)).trans hf.maxRecordLength

/-! ### The given profile (R180) -/

theorem BitVec.toNat_mod_byte {w : Nat} (x : BitVec w) (h : w ≤ 8) :
    x.toNat % 256 = x.toNat :=
  Nat.mod_eq_of_lt (lt_of_lt_of_le x.isLt (Nat.pow_le_pow_right (by decide) h))

theorem length_encodeSearch (m : SearchFields) : m.encode.length = 6 := by
  simp [SearchFields.encode]

theorem GivenProfile.fields_encode (g : GivenProfile) :
    let b := g.encode
    b.length = 25 ∧ g.line.At b 0 ∧ field b 5 2 = g.search.rateMask.toNat ∧
    field b 7 1 = g.search.dataMask.toNat ∧ field b 8 1 = g.search.parityMask.toNat ∧
    field b 9 1 = g.search.stopMask.toNat ∧
    field b 10 1 = (if g.search.polaritySearch then 1 else 0) ∧ g.framing.At b 11 := by
  have hline := g.line.fields_encode.1
  have hframing := g.framing.fields_encode.1
  have hsearch := length_encodeSearch g.search
  have hrates : g.search.rateMask.toNat % 65536 = g.search.rateMask.toNat :=
    Nat.mod_eq_of_lt g.search.rateMask.isLt
  have hpolarity : g.search.polaritySearch.toNat % 256 =
      if g.search.polaritySearch then 1 else 0 := by cases g.search.polaritySearch <;> rfl
  refine ⟨by simp [GivenProfile.encode, hline, hframing, hsearch], .within ?_, ?_, ?_, ?_, ?_, ?_,
    .within ?_⟩
  · simp only [GivenProfile.encode, fieldBytes_append_left, List.length_append, hline, hsearch,
      Nat.reduceAdd, Nat.reduceLeDiff, le_refl, fieldBytes_whole]
  case refine_7 =>
    simp only [GivenProfile.encode, fieldBytes_append_right, List.length_append, hline, hsearch,
      hframing, Nat.reduceAdd, le_refl, Nat.sub_self, fieldBytes_whole]
  all_goals
    simp only [GivenProfile.encode, SearchFields.encode, field_append_right, field_append_left,
      field_le, length_le, List.length_append, hline, Nat.reduceAdd, Nat.reduceSub,
      Nat.reduceLeDiff, Nat.reducePow, le_refl, hrates, hpolarity,
      BitVec.toNat_mod_byte _ (by decide : 4 ≤ 8), BitVec.toNat_mod_byte _ (by decide : 5 ≤ 8),
      BitVec.toNat_mod_byte _ (by decide : 2 ≤ 8)]

theorem exec_getConfig (s : State) : exec .getConfig s = execGetConfig s := rfl
theorem exec_getGiven (s : State) : exec .getGiven s = execGetGiven s := rfl

/-- Settles O23. -/
theorem writtenRecordsAreReadBack : Obligations.WrittenRecordsAreReadBack := by
  refine ⟨fun s c f rest => ⟨fun h => ?_, fun h => ?_⟩, ChannelConfig.fields_encode,
    GivenProfile.fields_encode⟩
  · have hrequest : requestOf f.kind = .getConfig := by rw [h.kind]; rfl
    rw [exec_getConfig, execGetConfig, takeRequest_channel h.taken hrequest (by simp [h.body])
      h.channel, executePlain_answerOk_popInbox h.taken, popInbox_chan]
  · have hrequest : requestOf f.kind = .getGiven := by rw [h.kind]; rfl
    rw [exec_getGiven, execGetGiven, takeRequest_channel h.taken hrequest (by simp [h.body])
      h.channel, executePlain_answerOk_popInbox h.taken, popInbox_chan]

theorem parityOfCode_code (p : Parity) : parityOfCode p.code = some p := by cases p <;> rfl
theorem polarityOfCode_code (p : Polarity) : polarityOfCode p.code = some p := by cases p <;> rfl
theorem framingModeOfCode_code (m : FramingMode) : framingModeOfCode m.code = some m := by
  cases m <;> rfl

theorem parseLine_at {b : List Byte} {l : LineFields} (h : l.At b 0)
    (hv : l.valid = true) : parseLine b = some l := by
  simp only [LineFields.valid, Bool.and_eq_true, decide_eq_true_eq] at hv
  obtain ⟨⟨⟨-, hdata⟩, -⟩, hstop⟩ := hv
  have f1 : field b 1 1 = l.format.dataBits := h.dataBits.trans (Nat.mod_eq_of_lt (by omega))
  have f2 : field b 2 1 = l.format.parity.code := h.parity
  have f3 : field b 3 1 = l.format.stopBits := h.stopBits.trans (Nat.mod_eq_of_lt (by omega))
  have f4 : field b 4 1 = l.polarity.code := h.polarity
  simp only [parseLine, f1, f2, f3, f4, h.rate, parityOfCode_code, polarityOfCode_code, l.rate.isLt,
    dif_pos]

theorem parseFraming_at {b : List Byte} {f : FramingFields} (h : f.At b 11)
    (hv : f.valid = true) : parseFraming b = some f := by
  simp only [FramingFields.valid, Bool.and_eq_true, decide_eq_true_eq] at hv
  obtain ⟨⟨⟨⟨⟨⟨hgap, hds⟩, -⟩, hrecord⟩, -⟩, hmax⟩, -⟩ := hv
  have f12 : field b 12 1 = f.gapLimit := h.gapLimit.trans (Nat.mod_eq_of_lt (by omega))
  have f13 : field b 13 1 = f.delimiters.length := h.count.trans (Nat.mod_eq_of_lt (by omega))
  have f14 : fieldBytes b 14 4 = (f.delimiters ++ List.replicate 4 0#8).take 4 := h.delimiters
  have f18 : field b 18 1 = if f.delimiterKept then 1 else 0 := h.kept
  have f19 : field b 19 1 = if f.startChar = none then 0 else 1 := h.present
  have f20 : fieldBytes b 20 1 = [f.startChar.getD 0#8] := h.startChar
  have f21 : field b 21 2 = f.recordLength := h.recordLength.trans (Nat.mod_eq_of_lt (by omega))
  have f23 : field b 23 2 = f.maxRecordLength :=
    h.maxRecordLength.trans (Nat.mod_eq_of_lt (by omega))
  have hdelimiters : fieldBytes b 14 f.delimiters.length = f.delimiters := by
    have := fieldBytes_within (i := 0) f14 (n := f.delimiters.length) (by omega)
    rw [Nat.add_zero] at this
    rw [this]
    simp [fieldBytes, List.take_take, hds]
  have hpresent : flagOfCode (if f.startChar = none then 0 else 1) = some f.startChar.isSome := by
    cases f.startChar <;> rfl
  have hstart : (if f.startChar.isSome then some (byte (field b 20 1)) else none) =
      f.startChar := by
    rw [field, f20, byte]
    cases f.startChar <;> simp [leValue]
  simp only [parseFraming, h.mode, f12, f13, f18, f19, f21, f23, framingModeOfCode_code,
    flagOfCode_toNat, hpresent, if_pos hds, hdelimiters, hstart]

theorem parseSearch_encode (g : GivenProfile) : parseSearch g.encode = some g.search := by
  obtain ⟨-, -, f5, f7, f8, f9, f10, -⟩ := g.fields_encode
  have hbound : g.search.dataMask.toNat < 16 ∧ g.search.parityMask.toNat < 32 ∧
      g.search.stopMask.toNat < 4 :=
    ⟨g.search.dataMask.isLt, g.search.parityMask.isLt, g.search.stopMask.isLt⟩
  simp only [parseSearch, f5, f7, f8, f9, f10, flagOfCode_toNat, if_pos hbound, BitVec.ofNat_toNat,
    BitVec.setWidth_eq]

/-- Settles O14: the three parts of the block, each read back at its place. -/
theorem givenProfileRoundTrip : Obligations.GivenProfileRoundTrip := by
  unfold Obligations.GivenProfileRoundTrip
  intro g rates hv hrate
  obtain ⟨hlength, hline, -, -, -, -, -, hframing⟩ := g.fields_encode
  obtain ⟨hlv, hfv⟩ := Bool.and_eq_true_iff.1 hv
  refine ⟨hlength, ?_⟩
  simp only [parseGiven, parseLine_at hline hlv, parseSearch_encode, parseFraming_at hframing hfv]
  rw [if_pos]
  simpa [hrate] using hv

end Sys2Proof.Machine
end

section
/-! The requests that read the device and its channels, SET_RATES, and the refusals of CONFIGURE. -/

namespace Sys2Proof.Machine

/-! ### HELLO, TIME and POOL (R155, R156, R164) -/

theorem exec_hello (s : State) : exec .hello s = execHello s := rfl
theorem exec_time (s : State) : exec .time s = execTime s := rfl
theorem exec_pool (s : State) : exec .pool s = execPool s := rfl

/-- Settles O21. -/
theorem deviceReadingsAreAnswered : Obligations.DeviceReadingsAreAnswered := by
  unfold Obligations.DeviceReadingsAreAnswered
  refine fun s f rest => ⟨fun h => ?_, fun h => ?_, fun h => ?_⟩
  · have hrequest : requestOf f.kind = .hello := by rw [h.kind]; rfl
    rw [exec_hello, execHello, takeRequest_device h.taken hrequest (by simp [h.body]) h.channel,
      executePlain_answerOk_popInbox h.taken]
    rfl
  · have hrequest : requestOf f.kind = .time := by rw [h.kind]; rfl
    rw [exec_time, execTime, takeRequest_device h.taken hrequest (by simp [h.body]) h.channel,
      executePlain_answerOk_popInbox h.taken, popInbox_time, TimeBase.encode]
  · have hrequest : requestOf f.kind = .pool := by rw [h.kind]; rfl
    rw [exec_pool, execPool, takeRequest_device h.taken hrequest (by simp [h.body]) h.channel,
      executePlain_answerOk_popInbox h.taken]
    simp only [Pools.encode, List.append_assoc]
    rfl

/-! ### STATUS (R161) -/

theorem length_encodeReport (r : Option TrialReport) : (encodeReport r).length = 20 := by
  rcases r with _ | ⟨_, _, _, _ | _, _⟩ <;> simp [encodeReport, encodeChosen]

theorem length_encodeChosen (x : Option Candidate) : (encodeChosen x).length = 9 := by
  rcases x with _ | _ <;> simp [encodeChosen]

theorem length_encodeLease (now : Nat) (l : Option Lease) : (encodeLease now l).length = 6 := by
  rcases l with _ | _ <;> simp [encodeLease]

theorem WorkingProfile.length_encode (w : WorkingProfile) : w.encode.length = 23 := by
  simp [WorkingProfile.encode, w.line.fields_encode.1, w.framing.fields_encode.1]

theorem Chan.length_encodeStatus (k : Chan) (now : Nat) : (k.encodeStatus now).length = 74 := by
  unfold Chan.encodeStatus
  dsimp only
  simp only [List.length_append, length_le, List.length_singleton, length_encodeReport,
    length_encodeLease, WorkingProfile.length_encode, Nat.reduceAdd]

/-- R180: the parts of the working profile block. -/
theorem WorkingProfile.parts_encode (w : WorkingProfile) :
    fieldBytes w.encode 0 5 = w.line.encode ∧ field w.encode 5 4 = w.nominal % 4294967296 ∧
      fieldBytes w.encode 9 14 = w.framing.encode := by
  have hline := w.line.fields_encode.1
  have hframing := w.framing.fields_encode.1
  refine ⟨?_, ?_, ?_⟩
  · simp only [WorkingProfile.encode, fieldBytes_append_left, length_le, List.length_append, hline,
      Nat.reduceAdd, Nat.reduceLeDiff, fieldBytes_whole]
  · simp only [WorkingProfile.encode, field_append_right, field_append_left, field_le, length_le,
      List.length_append, hline, Nat.reduceAdd, Nat.reduceSub, Nat.reducePow, le_refl]
  · simp only [WorkingProfile.encode, fieldBytes_append_right, length_le, List.length_append, hline,
      hframing, Nat.reduceAdd, Nat.reduceSub, le_refl, fieldBytes_whole]

/-- R161: the parts of the status record, each at its offset. -/
theorem Chan.parts_encodeStatus (k : Chan) (now : Nat) :
    let b := k.encodeStatus now
    let decoding := k.ctl.lock.decoding
    (field b 0 1 = k.config.mode.code % 256 ∧ field b 1 1 = k.ctl.lock.code % 256 ∧
      field b 2 1 = k.ctl.retryCount % 256 ∧ fieldBytes b 3 23 = k.working.encode ∧
      field b 26 1 = k.working.confirmed.toNat % 256 ∧
      fieldBytes b 27 1 = [k.working.epoch] ∧ field b 28 1 = k.pendingUpdate.toNat % 256) ∧
    (field b 29 2 = (if decoding then k.ctl.windowChars else 0) % 65536 ∧
      field b 31 2 = (if decoding then k.ctl.windowErrors else 0) % 65536 ∧
      fieldBytes b 33 1 = [signedByte (if decoding then k.sampler.windowOffset else 0)] ∧
      fieldBytes b 29 5 = le 2 (if decoding then k.ctl.windowChars else 0) ++
        le 2 (if decoding then k.ctl.windowErrors else 0) ++
        [signedByte (if decoding then k.sampler.windowOffset else 0)]) ∧
    (fieldBytes b 34 1 = [signedByte k.sampler.trackedOffset] ∧
      field b 35 1 = k.ctl.report.isSome.toNat % 256 ∧
      fieldBytes b 36 20 = encodeReport k.ctl.report) ∧
    (field b 56 2 = k.store.queue.length % 65536 ∧
      field b 58 4 = byteSum k.store.queue % 4294967296 ∧ field b 62 2 = k.openLength % 65536 ∧
      field b 64 2 = k.store.held % 65536 ∧ field b 66 1 = k.store.fill.code % 256 ∧
      field b 67 1 = k.store.hold.toNat % 256 ∧
      fieldBytes b 68 6 = encodeLease now k.store.lease) := by
  have hw := k.working.length_encode
  have hr := length_encodeReport k.ctl.report
  have hl := length_encodeLease now k.store.lease
  have h1 (x : Byte) : ([x] : List Byte).length = 1 := rfl
  unfold Chan.encodeStatus
  dsimp only
  simp only [fieldBytes_append_right, fieldBytes_append_left, field_append_right,
    field_append_left, field_le, length_le, List.length_append, hw, hr, hl, h1,
    Nat.reduceAdd, Nat.reduceSub, Nat.reduceLeDiff, Nat.reducePow, le_refl, fieldBytes_whole,
    true_and, and_true]
  simp only [List.append_assoc, fieldBytes_append_right, length_le, hw, h1, Nat.reduceSub,
    Nat.reduceLeDiff, Nat.sub_self, le_refl]
  exact fieldBytes_whole (by simp)

/-- R67, R161: the twenty bytes of a trial report. -/
theorem fields_encodeReport (r : TrialReport) :
    let b := encodeReport (some r)
    field b 0 1 = r.outcome.code ∧ field b 1 2 = r.evaluated % 65536 ∧
      field b 3 4 = r.estimate.getD 0 % 4294967296 ∧ fieldBytes b 7 9 = encodeChosen r.chosen ∧
      field b 16 4 = r.completed.toNat := by
  have houtcome : r.outcome.code % 256 = r.outcome.code := by cases r.outcome <;> rfl
  have hcompleted : r.completed.toNat % 4294967296 = r.completed.toNat :=
    Nat.mod_eq_of_lt r.completed.isLt
  have hchosen := length_encodeChosen r.chosen
  unfold encodeReport
  dsimp only
  simp only [fieldBytes_append_right, fieldBytes_append_left, field_append_right,
    field_append_left, field_le, length_le, List.length_append, hchosen, Nat.reduceAdd,
    Nat.reduceSub, Nat.reduceLeDiff, Nat.reducePow, le_refl, fieldBytes_whole, houtcome,
    hcompleted, true_and]

/-- R161: the nine bytes of a chosen candidate. -/
theorem fields_encodeChosen (x : Candidate) :
    let b := encodeChosen (some x)
    field b 0 1 = x.line.rate.val ∧ field b 1 4 = x.nominal % 4294967296 ∧
      field b 5 1 = x.line.format.dataBits % 256 ∧ field b 6 1 = x.line.format.parity.code ∧
      field b 7 1 = x.line.format.stopBits % 256 ∧ field b 8 1 = x.line.polarity.code := by
  have hrate : x.line.rate.val % 256 = x.line.rate.val := Nat.mod_eq_of_lt (by omega)
  unfold encodeChosen
  dsimp only
  simp only [field_append_right, field_append_left, field_le, length_le, List.length_append,
    Nat.reduceAdd, Nat.reduceSub, Nat.reduceLeDiff, Nat.reducePow, le_refl, hrate,
    Parity.code_mod, Polarity.code_mod, true_and]

/-- R130, R161: the six bytes of a lease. -/
theorem fields_encodeLease (now : Nat) (l : Lease) :
    let b := encodeLease now (some l)
    field b 0 1 = 1 ∧ field b 1 2 = l.id % 65536 ∧ field b 3 1 = l.records.length % 256 ∧
      field b 4 2 = (l.expiry - now) / 48000 % 65536 := by
  unfold encodeLease
  dsimp only
  simp only [field_append_right, field_append_left, field_le, length_le, List.length_append,
    Nat.reduceAdd, Nat.reduceSub, Nat.reduceLeDiff, Nat.reducePow, Nat.reduceMod, le_refl,
    Lease.remainingMs, true_and]

theorem exec_status (s : State) : exec .status s = execStatus s := rfl

/-- R161: the answer to STATUS. -/
theorem exec_status_asked {s : State} {c : Channel} {f : Frame} {rest : List Frame}
    (h : s.Asked c 0x0A#8 [] f rest) :
    exec .status s = .next (s.replied f rest (0x00#8 :: (s.chan c).encodeStatus s.now)) := by
  have hrequest : requestOf f.kind = .status := by rw [h.kind]; rfl
  rw [exec_status, execStatus, takeRequest_channel h.taken hrequest (by simp [h.body]) h.channel,
    executePlain_answerOk_popInbox h.taken, popInbox_chan]
  rfl

/-- Settles O24: the parts of the status record, and within them the report, the candidate and the
lease. -/
theorem statusDescribesTheChannel : Obligations.StatusDescribesTheChannel := by
  refine ⟨fun s c f rest h => ⟨(s.chan c).encodeStatus s.now, exec_status_asked h,
    Chan.length_encodeStatus .., ?_⟩, rfl, rfl, rfl, rfl, rfl, rfl, rfl⟩
  generalize s.chan c = k
  have hlock : k.ctl.lock.code % 256 = k.ctl.lock.code := by cases k.ctl.lock <;> rfl
  have hfill : k.store.fill.code % 256 = k.store.fill.code := by cases k.store.fill <;> rfl
  obtain ⟨⟨f0, f1, f2, f3, f26, f27, f28⟩, ⟨f29, f31, f33, f29'⟩, ⟨f34, f35, f36⟩,
    f56, f58, f62, f64, f66, f67, f68⟩ := k.parts_encodeStatus s.now
  generalize k.encodeStatus s.now = b at *
  obtain ⟨hline, hnominal, hframing⟩ := k.working.parts_encode
  refine ⟨by rw [f0, Mode.code_mod], by rw [f1, hlock], f2, f3, .within ?_, ?_, .within ?_,
    by rw [f26, Bool.toNat_mod_byte], by rw [field, f27]; simp [leValue],
    by rw [f28, Bool.toNat_mod_byte], ?_, ?_, f34, by rw [f35, Bool.toNat_mod_byte], ?_, ?_, f56,
    f58, f62, f64, by rw [f66, hfill], by rw [f67, Bool.toNat_mod_byte], ?_, ?_, ?_⟩
  · exact (fieldBytes_within (i := 0) f3 (by decide)).trans hline
  · exact (field_within f3 (by decide)).trans hnominal
  · exact (fieldBytes_within f3 (by decide)).trans hframing
  · intro hd
    simp only [hd, if_true] at f29 f31 f33
    exact ⟨f29, f31, f33⟩
  · intro hd
    rw [f29']
    simp only [hd, Bool.false_eq_true, if_false]
    rfl
  · intro hr
    rw [f36, hr]
    rfl
  · intro r hr
    rw [hr] at f36
    obtain ⟨r0, r1, r3, r7, r16⟩ := fields_encodeReport r
    refine ⟨(field_within (i := 0) f36 (by decide)).trans r0,
      (field_within f36 (by decide)).trans r1, (field_within f36 (by decide)).trans r3,
      fun x hx => ?_, fun hx => ?_, (field_within f36 (by decide)).trans r16⟩
    · have hchosen := (fieldBytes_within f36 (by decide : 7 + 9 ≤ 20)).trans r7
      rw [hx] at hchosen
      obtain ⟨x0, x1, x5, x6, x7, x8⟩ := fields_encodeChosen x
      exact ⟨(field_within (i := 0) hchosen (by decide)).trans x0,
        (field_within hchosen (by decide)).trans x1, (field_within hchosen (by decide)).trans x5,
        (field_within hchosen (by decide)).trans x6, (field_within hchosen (by decide)).trans x7,
        (field_within hchosen (by decide)).trans x8⟩
    · rw [fieldBytes_within f36 (by decide : 7 + 9 ≤ 20), r7, hx]
      rfl
  · rw [field_within (i := 0) f68 (by decide)]
    rcases k.store.lease with _ | l
    · rfl
    · exact (fields_encodeLease s.now l).1
  · intro hl
    rw [fieldBytes_within f68 (by decide : 1 + 5 ≤ 6), hl]
    rfl
  · intro l hl
    rw [hl] at f68
    obtain ⟨-, l1, l3, l4⟩ := fields_encodeLease s.now l
    exact ⟨(field_within f68 (by decide)).trans l1, (field_within f68 (by decide)).trans l3,
      (field_within f68 (by decide)).trans l4⟩

/-! ### Mutating requests (R176) -/

/-- R176: a new mutating request answers, and enters its answer in the cache; `t` is what it has
made of the device, the link apart. -/
theorem executeMutating_fresh_popInbox {s t : State} {f : Frame} {rest : List Frame}
    (h : s.CanTake f rest) (hfresh : s.Fresh f) {run : State → Reply} {result : Result}
    {fields : List Byte}
    (hrun : run s.popInbox = { state := t, result := result, fields := fields })
    (hlink : t.link = s.popInbox.link) :
    s.popInbox.executeMutating f run =
      { t with link := s.link.answeredCached f rest (result.code :: fields) } := by
  have hfresh' : s.popInbox.Fresh f := hfresh
  rw [executeMutating_fresh hfresh', executeCached_eq, hrun]
  dsimp only
  rw [hlink]
  simp only [HostLink.answeredCached, HostLink.answered, State.popInbox, State.modLink, h.head,
    List.tail_cons, Reply.body]

/-- R176: a new mutating request that is refused answers its result code alone. -/
theorem executeMutating_refused_popInbox {s : State} {f : Frame} {rest : List Frame}
    (h : s.CanTake f rest) (hfresh : s.Fresh f) {run : State → Reply} {result : Result}
    (hrun : run s.popInbox = s.popInbox.answer result) :
    s.popInbox.executeMutating f run = s.repliedCached f rest [result.code] :=
  executeMutating_fresh_popInbox (t := s.popInbox) h hfresh hrun rfl

/-! ### SET_RATES (R4) -/

theorem getElem_parseRates (b : List Byte) (i : Nat) (hi : i < 16) :
    (parseRates b)[i] = field b (4 * i) 4 := by
  interval_cases i <;> rfl

/-- R4, R5: the table read from the body is the one written there. -/
theorem parseRates_encodeRates {rates : Vector Nat 16}
    (h : ∀ r ∈ rates.toList, r < 4294967296) : parseRates (encodeRates rates) = rates := by
  refine Vector.ext fun i hi => ?_
  have hat : rates.toList[i]? = some rates[i] := by
    rw [List.getElem?_eq_some_iff]
    exact ⟨by simpa using hi, by simp⟩
  rw [getElem_parseRates, encodeRates, field_flatMap_le 4 hat]
  exact Nat.mod_eq_of_lt (h _ (List.mem_of_getElem? hat))

theorem rateEntryValid_iff (r : Nat) :
    rateEntryValid r = true ↔ r = 0 ∨ (300 ≤ r ∧ r ≤ 3000000) := by
  simp [rateEntryValid]

theorem exec_setRates (s : State) : exec .setRates s = execSetRates s := rfl

theorem length_flatMap_le (w : Nat) (row : List Nat) :
    (row.flatMap fun r => le w r).length = w * row.length := by
  simp [List.length_flatMap, Nat.mul_comm]

/-- Settles O26: the table of the body, accepted when every entry is legal. -/
theorem setRatesReplacesTheTableWhole : Obligations.SetRatesReplacesTheTableWhole := by
  unfold Obligations.SetRatesReplacesTheTableWhole
  intro s f rest rates hrates hfresh h
  have hrequest : requestOf f.kind = .setRates := by rw [h.kind]; rfl
  have hlength : f.body.length = 64 := by rw [h.body, length_flatMap_le]; simp
  have hparse : parseRates f.body = rates := by
    rw [h.body]
    exact parseRates_encodeRates hrates
  rw [exec_setRates, execSetRates, takeRequest_device h.taken hrequest hlength h.channel, hparse]
  refine ⟨fun hall => congrArg _ ?_, fun hbad => congrArg _ ?_⟩
  · have hall' : rates.toList.all rateEntryValid = true :=
      List.all_eq_true.2 fun r hr => (rateEntryValid_iff r).2 (hall r hr)
    exact executeMutating_fresh_popInbox (t := { s.popInbox with rates := rates }) (result := .ok)
      (run := fun s => s.setRates rates) h.taken hfresh (if_pos hall') rfl
  · obtain ⟨r, hr, hr0, hrange⟩ := hbad
    have hnot : ¬rates.toList.all rateEntryValid = true := fun hall => by
      have := (rateEntryValid_iff r).1 (List.all_eq_true.1 hall r hr)
      omega
    exact executeMutating_refused_popInbox (result := .badValue)
      (run := fun s => s.setRates rates) h.taken hfresh (if_neg hnot)

/-! ### CONFIGURE refused (R157) -/

theorem exec_configure (s : State) : exec .configure s = execConfigure s := rfl

/-- R174: a CONFIGURE of the right shape is carried out on its channel. -/
theorem exec_configure_asked {s : State} {c : Channel} {b : List Byte} {f : Frame}
    {rest : List Frame} (h : s.Asked c 0x05#8 b f rest) (hlength : b.length = 29) :
    exec .configure s = .next (s.popInbox.executeMutating f fun s => s.configure c b) := by
  have hrequest : requestOf f.kind = .configure := by rw [h.kind]; rfl
  rw [exec_configure, execConfigure,
    takeRequest_channel h.taken hrequest (by rw [h.body, hlength]) h.channel, h.body]

/-- Settles O27: the record of the body is not read. -/
theorem illegalConfigurationIsRefused : Obligations.IllegalConfigurationIsRefused := by
  unfold Obligations.IllegalConfigurationIsRefused
  intro s c b f rest h hlength hfresh hbad
  have hnone : parseConfig b = none := by
    rcases hbad with ⟨k, hfits, rfl, hinvalid⟩ | hcode
    · rw [parseConfig_encode hfits, hinvalid]
      rfl
    · exact parseConfig_unlisted hcode
  rw [exec_configure_asked h hlength, executeMutating_refused_popInbox (result := .badValue)
    h.taken hfresh (by rw [State.configure, hnone]), Result.code]

end Sys2Proof.Machine
end

section
/-! The leases: TAKE, RELEASE, the expiry, the ids of other leases; the record descriptor (R128 to
R136, R181). -/

namespace Sys2Proof.Machine

/-! ### The grant (R129) -/

/-- R129: how far a grant goes beyond its head: the longest run that both limits allow. -/
theorem takeCount_run {granted left : List Record} {n bytes : Nat} (hn : granted.length ≤ n)
    (hb : byteSum granted ≤ bytes)
    (hstop : ∀ r, left.head? = some r →
      granted.length = n ∨ bytes < byteSum granted + r.bytes.length) :
    takeCount (granted ++ left) n bytes = granted.length := by
  induction granted generalizing n bytes with
  | nil =>
    cases left with
    | nil => rfl
    | cons r rest =>
      have h := hstop r rfl
      simp only [byteSum, List.map_nil, List.sum_nil, List.length_nil, Nat.zero_add] at h
      rw [List.nil_append, takeCount, if_neg (by omega), List.length_nil]
  | cons x rest ih =>
    simp only [byteSum, List.map_cons, List.sum_cons, List.length_cons] at hn hb hstop ih
    rw [List.cons_append, takeCount, if_pos (by omega), List.length_cons,
      ih (n := n - 1) (bytes := bytes - x.bytes.length) (by omega) (by omega)]
    intro r hr
    have h := hstop r hr
    omega

/-- R129: the number of records granted. -/
theorem grantCount_run {granted left : List Record} {maxRecords maxBytes : Nat} (h : granted ≠ [])
    (hn : granted.length ≤ maxRecords) (hb : granted.length = 1 ∨ byteSum granted ≤ maxBytes)
    (hstop : ∀ r, left.head? = some r →
      granted.length = maxRecords ∨ maxBytes < byteSum granted + r.bytes.length) :
    grantCount maxRecords maxBytes (granted ++ left) = granted.length := by
  cases granted with
  | nil => exact absurd rfl h
  | cons x rest =>
    simp only [byteSum, List.map_cons, List.sum_cons, List.length_cons] at hn hb hstop
    rw [List.cons_append, grantCount]
    by_cases hx : x.bytes.length ≤ maxBytes
    · have hrest : byteSum rest ≤ maxBytes - x.bytes.length := by
        rcases hb with hone | hsum
        · obtain rfl : rest = [] := List.length_eq_zero_iff.1 (by omega)
          exact Nat.zero_le _
        · simp only [byteSum]
          omega
      rw [if_pos hx, takeCount_run (by omega) hrest, List.length_cons]
      intro r hr
      have h := hstop r hr
      simp only [byteSum]
      omega
    · have hone : rest.length = 0 := by omega
      rw [if_neg hx, List.length_cons, hone]

theorem grantLease_eq (s : State) (c : Channel) (n : Nat) :
    s.grantLease c n =
      { s.modStore c (fun st =>
          { st with
            lease :=
              some
                { id := s.leaseCounter
                  records := st.queue.take n
                  expiry := s.time.ticks + (s.chan c).config.leaseTimeoutMs * 48000 }
            queue := st.queue.drop n }) with
        leaseCounter := if 65535 ≤ s.leaseCounter then 1 else s.leaseCounter + 1 } := rfl

/-- R129: the grant of a run from the queue's head. -/
theorem grantLease_run {s : State} {c : Channel} {granted left : List Record}
    (h : (s.chan c).store.queue = granted ++ left) :
    s.grantLease c granted.length =
      { s.modStore c (fun st =>
          { st with
            lease :=
              some
                { id := s.leaseCounter
                  records := granted
                  expiry := s.time.ticks + (s.chan c).config.leaseTimeoutMs * 48000 }
            queue := left }) with
        leaseCounter := if 65535 ≤ s.leaseCounter then 1 else s.leaseCounter + 1 } := by
  rw [grantLease_eq]
  refine congrArg (fun u : State => { u with
    leaseCounter := if 65535 ≤ s.leaseCounter then 1 else s.leaseCounter + 1 })
    (State.modChan_congr ?_)
  simp [h]

/-! ### The descriptor (R181) -/

theorem Record.described_encode (r : Record) : r.Described r.encode := by
  have h1 (x : Byte) : ([x] : List Byte).length = 1 := rfl
  have hcause : r.cause.code % 256 = r.cause.code := by cases r.cause <;> rfl
  have hword (x : BitVec 32) : x.toNat % 4294967296 = x.toNat := Nat.mod_eq_of_lt x.isLt
  have hflags : r.flags % 256 =
      (if r.truncated then 1 else 0) + (if r.suspect then 2 else 0) +
        (if r.firstError = none then 0 else 4) + (if r.preamble = none then 0 else 8) := by
    unfold Record.flags
    cases r.truncated <;> cases r.suspect <;> cases r.firstError <;> cases r.preamble <;> rfl
  unfold Record.encode
  constructor <;>
  simp only [List.length_append, field_append_right, field_append_left, field_le, length_le, h1,
    Nat.reduceAdd, Nat.reduceSub, Nat.reduceLeDiff, Nat.reducePow, le_refl, hcause, hword, hflags,
    field_singleton]

/-! ### TAKE -/

theorem exec_take (s : State) : exec .take s = execTake s := rfl

/-- The two fields of a TAKE's body. -/
theorem take_fields {maxRecords maxBytes : Nat} (h : maxRecords < 256) (h' : maxBytes < 65536) :
    field (le 1 maxRecords ++ le 2 maxBytes) 0 1 = maxRecords ∧
      field (le 1 maxRecords ++ le 2 maxBytes) 1 2 = maxBytes := by
  rw [field_append_left (by simp), field_append_right (by simp)]
  simp only [length_le, Nat.sub_self, field_le, Nat.reducePow]
  exact ⟨Nat.mod_eq_of_lt h, Nat.mod_eq_of_lt h'⟩

/-- R174: a TAKE of the right shape is carried out on its channel. -/
theorem exec_take_asked {s : State} {c : Channel} {maxRecords maxBytes : Nat} {f : Frame}
    {rest : List Frame} (h : maxRecords < 256) (h' : maxBytes < 65536)
    (hasked : s.Asked c 0x0D#8 (le 1 maxRecords ++ le 2 maxBytes) f rest) :
    exec .take s =
      .next (s.popInbox.executeMutating f fun s => s.takeRecords c maxRecords maxBytes) := by
  have hrequest : requestOf f.kind = .take := by rw [hasked.kind]; rfl
  obtain ⟨h0, h1⟩ := take_fields h h'
  rw [exec_take, execTake, takeRequest_channel hasked.taken hrequest (by simp [hasked.body])
    hasked.channel, hasked.body, h0, h1]

/-- Settles O33: the refusals in their order, then the grant of the run. -/
theorem takeGrantsALease : Obligations.TakeGrantsALease := by
  refine ⟨?_, Record.described_encode, rfl⟩
  intro s c maxRecords maxBytes f rest hrecords hbytes hasked hfresh
  rw [exec_take_asked hrecords hbytes hasked]
  have refused {r : Result} (hrun : s.popInbox.takeRecords c maxRecords maxBytes =
      s.popInbox.answer r) := congrArg Host.Outcome.next
    (β := Host.Outcome State Fault Refusal)
    (executeMutating_refused_popInbox (run := fun s => s.takeRecords c maxRecords maxBytes)
      hasked.taken hfresh hrun)
  refine ⟨fun hv => refused (r := .badValue) ?_, fun hv hl => refused (r := .busy) ?_,
    fun hv hl hq => refused (r := .empty) ?_, fun granted left hv hl hq hne hn hb hstop => ?_⟩
  · exact if_pos (by omega)
  · have : (s.chan c).store.lease.isSome = true := Option.isSome_iff_ne_none.2 hl
    simp only [State.takeRecords, popInbox_chan, this]
    rw [if_neg (by omega), if_pos trivial]
  · simp only [State.takeRecords, popInbox_chan, hl, hq]
    rw [if_neg (by omega)]
    rfl
  · have hcount := grantCount_run hne hn hb hstop
    have hqueue : (s.chan c).store.queue.isEmpty = false := by
      rw [hq, List.isEmpty_eq_false_iff]
      simp [hne]
    have hgrant := grantLease_run (s := s.popInbox) hq
    refine congrArg _ ((executeMutating_fresh_popInbox (result := .ok)
      (t := s.popInbox.grantLease c granted.length)
      (fields := le 2 s.leaseCounter ++ le 1 granted.length ++ granted.flatMap Record.encode)
      hasked.taken hfresh ?_ rfl).trans ?_)
    · simp only [State.takeRecords, popInbox_chan, hl, hqueue]
      rw [if_neg (by omega), hq, hcount]
      simp [hgrant, State.answerOk, Lease.encode]
    · rw [hgrant]
      rfl

/-! ### The ids of other leases (R131) -/

theorem nameLease_other {st : ChannelStore} {id : Nat}
    (h : ∀ l, st.lease = some l → l.id ≠ id) :
    st.nameLease id = if st.lastExpired = some id then .stale else .noLease := by
  unfold ChannelStore.nameLease
  rcases hl : st.lease with _ | l
  · rfl
  · simp [h l hl]

theorem exec_release (s : State) : exec .release s = execRelease s := rfl

/-- Settles O34: the id names no lease, stale or not. -/
theorem otherLeaseIdsAreAnswered : Obligations.OtherLeaseIdsAreAnswered := by
  unfold Obligations.OtherLeaseIdsAreAnswered
  intro s c id tail f rest hid hother
  have hfield : field (le 2 id ++ tail) 0 2 = id := field_le_append hid tail
  have hname := nameLease_other hother
  refine ⟨fun h hlength => ?_, fun h hlength hfresh => ?_⟩
  · have hrequest : requestOf f.kind = .fetch := by rw [h.kind]; rfl
    rw [exec_fetch, execFetch, takeRequest_channel h.taken hrequest (by simp [h.body, hlength])
      h.channel, h.body, hfield]
    by_cases hstale : (s.chan c).store.lastExpired = some id
    · rw [if_pos hstale] at hname ⊢
      exact congrArg _ (executePlain_answer_popInbox (r := .stale) h.taken
        (by rw [State.fetchBytes, popInbox_chan, hname]))
    · rw [if_neg hstale] at hname ⊢
      exact congrArg _ (executePlain_answer_popInbox (r := .noLease) h.taken
        (by rw [State.fetchBytes, popInbox_chan, hname]))
  · have hrequest : requestOf f.kind = .release := by rw [h.kind]; rfl
    rw [exec_release, execRelease, takeRequest_channel h.taken hrequest
      (by simp [h.body, hlength]) h.channel, h.body, hfield]
    by_cases hstale : (s.chan c).store.lastExpired = some id
    · rw [if_pos hstale] at hname ⊢
      exact congrArg _ (executeMutating_refused_popInbox (result := .stale) h.taken hfresh
        (by rw [State.releaseRecords, popInbox_chan, hname]))
    · rw [if_neg hstale] at hname ⊢
      exact congrArg _ (executeMutating_refused_popInbox (result := .noLease) h.taken hfresh
        (by rw [State.releaseRecords, popInbox_chan, hname]))

/-! ### RELEASE and PURGE (R117, R118, R134, R135) -/

/-- R120: the fill state of a channel once the records `gone` are freed. -/
def Chan.fillFreed (k : Chan) (gone : List Record) : Fill :=
  if gone = [] then k.store.fill
  else fillAfter (k.store.held - segmentSum gone) k.config.highMark k.config.lowMark k.store.fill

/-- R122: the HOLD output of a channel once the records `gone` are freed. -/
def Chan.holdFreed (k : Chan) (gone : List Record) : Bool :=
  if k.fillFreed gone = k.store.fill then k.store.hold else k.config.holdFor (k.fillFreed gone)

theorem Chan.storeFreed_eq (k : Chan) (gone : List Record) :
    k.storeFreed gone =
      { k.store with
        held := k.store.held - segmentSum gone
        fill := k.fillFreed gone
        hold := k.holdFreed gone } := by
  by_cases h : gone = []
  · subst h
    simp [Chan.storeFreed, Chan.fillFreed, Chan.holdFreed, segmentSum]
  · simp only [Chan.storeFreed, Chan.holdFreed, Chan.fillFreed, if_neg h]
    rfl

/-- R117: records leave their place by `g`, which leaves counts and fill state alone, and are freed:
one write of the store, one of the pools, and a post for a crossing. -/
theorem modStore_freeRecords {s : State} {c : Channel} {g : ChannelStore → ChannelStore}
    (hg : (g (s.chan c).store).held = (s.chan c).store.held ∧
      (g (s.chan c).store).fill = (s.chan c).store.fill ∧
      (g (s.chan c).store).hold = (s.chan c).store.hold) (gone : List Record) :
    (s.modStore c g).freeRecords c gone =
      { s.modStore c (fun st =>
          { g st with
            held := (s.chan c).store.held - segmentSum gone
            fill := (s.chan c).fillFreed gone
            hold := (s.chan c).holdFreed gone }) with
        pools :=
          { s.pools with
            freeSegments := s.pools.freeSegments + segmentSum gone
            freeDescriptors := s.pools.freeDescriptors + gone.length }
        notices :=
          if (s.chan c).fillFreed gone = (s.chan c).store.fill then s.notices
          else (s.postChan c .fill (.fill 1)).notices } := by
  obtain ⟨hheld, hfill, hhold⟩ := hg
  have hstore : ((s.modStore c g).chan c).storeFreed gone =
      { g (s.chan c).store with
        held := (s.chan c).store.held - segmentSum gone
        fill := (s.chan c).fillFreed gone
        hold := (s.chan c).holdFreed gone } := by
    rw [Chan.storeFreed_eq]
    simp [Chan.fillFreed, Chan.holdFreed, hheld, hfill, hhold]
  rw [freeRecords_eq, hstore]
  refine State.eq_of_chan (fun d => ?_) ?_
  · by_cases hd : d = c
    · subst hd
      simpa using hstore
    · simp [State.chan_modChan_other hd, State.chan_modStore_other hd]
  · simp [hfill]
    rfl

theorem exec_purge (s : State) : exec .purge s = execPurge s := rfl

/-- R174: a RELEASE of the right shape is carried out on its channel. -/
theorem exec_release_asked {s : State} {c : Channel} {id count : Nat} {f : Frame}
    {rest : List Frame} (hid : id < 65536) (hcount : count < 256)
    (h : s.Asked c 0x0F#8 (le 2 id ++ le 1 count) f rest) :
    exec .release s =
      .next (s.popInbox.executeMutating f fun s => s.releaseRecords c id count) := by
  have hrequest : requestOf f.kind = .release := by rw [h.kind]; rfl
  have h2 : field (le 2 id ++ le 1 count) 2 1 = count := by
    rw [field_append_right (by simp)]
    simp only [length_le, Nat.sub_self, field_le]
    exact Nat.mod_eq_of_lt hcount
  rw [exec_release, execRelease, takeRequest_channel h.taken hrequest (by simp [h.body]) h.channel,
    h.body, field_le_append hid, h2]

/-- Settles O36: both commands take records from their place and free them. -/
theorem freedRecordsReturnToThePools : Obligations.FreedRecordsReturnToThePools := by
  unfold Obligations.FreedRecordsReturnToThePools
  intro s c f rest hfresh
  refine ⟨fun l count hcount hid hlease h => ?_, fun h => ?_⟩
  · rw [exec_release_asked hid hcount h]
    have hname : (s.popInbox.chan c).store.nameLease l.id = .current l := nameLease_current hlease
    refine ⟨fun hmore => congrArg _ (executeMutating_refused_popInbox (result := .badValue) h.taken
      hfresh ?_), fun gone kept hl hlength => congrArg _ ?_⟩
    · simp only [State.releaseRecords, hname, if_pos hmore]
    · have hrun : s.popInbox.releaseRecords c l.id count =
          (s.popInbox.releaseLease c l count).answerOk
            (le 1 count ++ le 1 (l.records.length - count)) := by
        simp only [State.releaseRecords, hname]
        rw [if_neg (by rw [hl, List.length_append]; omega)]
      rw [releaseLease_eq, modStore_freeRecords ⟨rfl, rfl, rfl⟩, hl, ← hlength,
        List.drop_left, List.take_left, List.length_append, Nat.add_sub_cancel_left] at hrun
      rw [← hlength, executeMutating_fresh_popInbox h.taken hfresh hrun (by rfl)]
      rfl
  · have hrequest : requestOf f.kind = .purge := by rw [h.kind]; rfl
    rw [exec_purge, execPurge, takeRequest_channel h.taken hrequest (by simp [h.body]) h.channel]
    have hrun : s.popInbox.purgeQueue c =
        ((s.popInbox.modStore c fun st => { st with queue := [] }).freeRecords c
          (s.chan c).store.queue).answerOk (le 2 (s.chan c).store.queue.length) := rfl
    rw [modStore_freeRecords ⟨rfl, rfl, rfl⟩] at hrun
    rw [executeMutating_fresh_popInbox h.taken hfresh hrun (by rfl)]
    rfl

/-! ### The expiry and the credit (R136, R148) -/

theorem exec_leaseExpiry (c : Channel) (s : State) :
    exec (.leaseExpiry c) s = execLeaseExpiry c s := rfl

/-- Settles O38. -/
theorem expiredLeaseReturnsItsRecords : Obligations.ExpiredLeaseReturnsItsRecords := by
  unfold Obligations.ExpiredLeaseReturnsItsRecords
  intro s c l hr hlease
  rw [exec_leaseExpiry, execLeaseExpiry, whileRunning_running hr]
  simp only [hlease]
  rfl

theorem exec_credit (s : State) : exec .credit s = execCredit s := rfl

/-- Settles O39. -/
theorem creditIsAdded : Obligations.CreditIsAdded := by
  unfold Obligations.CreditIsAdded
  intro s n f rest h
  have hrequest : requestOf f.kind = .credit := by rw [h.kind]; rfl
  rw [exec_credit, execCredit, takeRequest_device h.taken hrequest (by simp [h.body]) h.channel,
    h.body, field_singleton]
  refine ⟨fun hfresh => congrArg _ ?_, fun e he hn htag hkind hchannel hcheck => congrArg _ ?_⟩
  · exact executeMutating_fresh_popInbox (run := fun s => s.addCredit n.toNat) (result := .ok)
      (t := { s.popInbox with notices :=
        { s.notices with credit := min 255 (s.notices.credit + n.toNat) } }) h.taken hfresh rfl rfl
  · exact executeMutating_retransmitted_popInbox h.taken hn he htag hkind hchannel hcheck _

end Sys2Proof.Machine
end

section
/-! CLOSE and SET_GIVEN, by lock state and by what the open record holds (R9, R10, R17, R99 to
R104). -/

namespace Sys2Proof.Machine

@[simp] theorem chan_repliedCached (s : State) (f : Frame) (rest : List Frame) (b : List Byte)
    (c : Channel) : (s.repliedCached f rest b).chan c = s.chan c := rfl

/-! ### CLOSE (R103) -/

theorem exec_close (s : State) : exec .close s = execClose s := rfl

/-- R174: a CLOSE of the right shape is carried out on its channel. -/
theorem exec_close_asked {s : State} {c : Channel} {f : Frame} {rest : List Frame}
    (h : s.Asked c 0x10#8 [] f rest) :
    exec .close s = .next (s.popInbox.executeMutating f fun s => s.closeOpen c) := by
  have hrequest : requestOf f.kind = .close := by rw [h.kind]; rfl
  rw [exec_close, execClose, takeRequest_channel h.taken hrequest (by simp [h.body]) h.channel]

theorem closeOpen_open {s : State} {c : Channel} {r : OpenRecord}
    (h : (s.chan c).openRecord? = some r) :
    s.closeOpen c = (s.closing c .close (BitVec.ofNat 32 (s.time.ticks / 48))).answerOk [0x01#8] := by
  simp only [State.closeOpen, State.closeRequested, h, closeRecord_eq]
  rfl

theorem closeOpen_none {s : State} {c : Channel} (h : (s.chan c).openRecord? = none) :
    s.closeOpen c = s.answerOk [0x00#8] := by
  simp only [State.closeOpen, State.closeRequested, h]
  rfl

/-- A closure and the link have nothing to do with each other. -/
theorem closing_withLink (s : State) (l : HostLink) (c : Channel) (cause : Cause) (t : BitVec 32) :
    { s with link := l }.closing c cause t = { s.closing c cause t with link := l } := by
  rcases h : (s.chan c).openRecord? with _ | r
  · rw [State.closing_of_none h, State.closing_of_none (s := { s with link := l }) h]
  · rw [State.closing_of_open h, State.closing_of_open (s := { s with link := l }) h]
    rfl

@[simp] theorem link_closing (s : State) (c : Channel) (cause : Cause) (t : BitVec 32) :
    (s.closing c cause t).link = s.link := by
  rcases h : (s.chan c).openRecord? with _ | r
  · rw [State.closing_of_none h]
  · rw [State.closing_of_open h]
    rfl

/-- R103: the answered CLOSE of an open record. -/
theorem exec_close_open {s : State} {c : Channel} {f : Frame} {rest : List Frame} {r : OpenRecord}
    (h : s.Asked c 0x10#8 [] f rest) (hfresh : s.Fresh f)
    (hr : (s.chan c).openRecord? = some r) :
    exec .close s = .next ((s.repliedCached f rest [0x00#8, 0x01#8]).closing c .close
      (BitVec.ofNat 32 (s.time.ticks / 48))) := by
  rw [exec_close_asked h, executeMutating_fresh_popInbox h.taken hfresh
    (closeOpen_open (s := s.popInbox) hr) (link_closing ..)]
  exact congrArg Host.Outcome.next (closing_withLink s.popInbox
    (s.link.answeredCached f rest [0x00#8, 0x01#8]) c .close _).symm

/-- R99: a closure by what it makes of the channel, the pools and the notices. -/
theorem closing_as {s : State} {c : Channel} {r : OpenRecord} {cause : Cause} {t : BitVec 32}
    {g : Chan → Chan} {p : Pools} {n : NoticeUnit} (h : (s.chan c).openRecord? = some r)
    (hg : (s.chan c).closing c cause t = g (s.chan c)) (hp : s.pools.closing r = p)
    (hn : (if r.bytes = [] ∧ r.lost = 0 then s.notices
      else if r.hasDescriptor then (s.postChan c .ready .ready).notices
      else (s.postChan c .dropped (.dropped 1)).notices) = n) :
    s.closing c cause t = { s.modChan c g with pools := p, notices := n } := by
  rw [State.closing_of_open h, State.modChan_congr hg, hp, hn]

/-- Settles O37: the closure in its three forms. -/
theorem closeHandsTheRecordOver : Obligations.CloseHandsTheRecordOver := by
  unfold Obligations.CloseHandsTheRecordOver
  intro s c f rest h hfresh
  refine ⟨fun hnone => ?_, fun r hr => ?_⟩
  · rw [exec_close_asked h]
    exact congrArg _ (executeMutating_fresh_popInbox (t := s.popInbox) (result := .ok) h.taken
      hfresh (closeOpen_none hnone) rfl)
  rw [exec_close_open h hfresh hr]
  have hclosed := Chan.closing_of_open hr c .close (BitVec.ofNat 32 (s.time.ticks / 48))
  rw [Chan.updated_eq] at hclosed
  refine ⟨fun hbytes hlost => congrArg _ ?_, fun hkept hd => congrArg _ ?_,
    fun hkept hd => congrArg _ ?_⟩
  · refine closing_as (s := s.repliedCached f rest [0x00#8, 0x01#8]) hr (hclosed.trans ?_) ?_ ?_
    · simp only [chan_repliedCached, ChannelStore.closing, Statistics.closing, hbytes, hlost,
        and_self, if_true]
      rfl
    · cases hd : r.hasDescriptor <;> simp [Pools.closing, hbytes, hlost, hd, State.repliedCached]
    · exact if_pos ⟨hbytes, hlost⟩
  · have hnot : ¬(r.bytes = [] ∧ r.lost = 0) := by tauto
    refine closing_as (s := s.repliedCached f rest [0x00#8, 0x01#8]) hr (hclosed.trans ?_) ?_ ?_
    · simp only [chan_repliedCached, ChannelStore.closing, Statistics.closing, if_neg hnot, hd, if_true]
      rfl
    · exact if_neg (by tauto)
    · simp only [if_neg hnot, hd, if_true]
      rfl
  · have hnot : ¬(r.bytes = [] ∧ r.lost = 0) := by tauto
    refine closing_as (s := s.repliedCached f rest [0x00#8, 0x01#8]) hr (hclosed.trans ?_) ?_ ?_
    · simp only [chan_repliedCached, ChannelStore.closing, Statistics.closing, if_neg hnot, hd,
        Bool.false_eq_true, if_false]
      rfl
    · exact if_neg (by tauto)
    · simp only [if_neg hnot, hd, Bool.false_eq_true, if_false]
      rfl

end Sys2Proof.Machine
end

section
/-! SET_GIVEN: the checks of its block, and what an accepted one does by lock state (R9, R10, R17,
R104). -/

namespace Sys2Proof.Machine

/-! ### The block refused (R9) -/

theorem parityOfCode_range {v : Nat} {p : Parity} (h : parityOfCode v = some p) : v ≤ 4 := by
  match v with
  | 0 | 1 | 2 | 3 | 4 => decide
  | _ + 5 => simp [parityOfCode] at h

theorem polarityOfCode_range {v : Nat} {p : Polarity} (h : polarityOfCode v = some p) : v ≤ 1 := by
  match v with
  | 0 | 1 => decide
  | _ + 2 => simp [polarityOfCode] at h

theorem flagOfCode_range {v : Nat} {p : Bool} (h : flagOfCode v = some p) : v ≤ 1 := by
  match v with
  | 0 | 1 => decide
  | _ + 2 => simp [flagOfCode] at h

theorem framingModeOfCode_eq {v : Nat} {m : FramingMode} (h : framingModeOfCode v = some m) :
    v = m.code := by
  match v with
  | 0 | 1 | 2 => cases m <;> simp_all [framingModeOfCode, FramingMode.code]
  | _ + 3 => simp [framingModeOfCode] at h

theorem parseLine_eq_some {b : List Byte} {l : LineFields} (h : parseLine b = some l) :
    field b 0 1 = l.rate.val ∧ field b 1 1 = l.format.dataBits ∧ field b 2 1 ≤ 4 ∧
      field b 3 1 = l.format.stopBits ∧ field b 4 1 ≤ 1 := by
  unfold parseLine at h
  split at h
  · rename_i hparity hpolarity
    split at h
    · obtain rfl := Option.some.inj h
      exact ⟨rfl, rfl, parityOfCode_range hparity, rfl, polarityOfCode_range hpolarity⟩
    · simp at h
  · simp at h

theorem parseSearch_eq_some {b : List Byte} {m : SearchFields} (h : parseSearch b = some m) :
    field b 7 1 < 16 ∧ field b 8 1 < 32 ∧ field b 9 1 < 4 ∧ field b 10 1 ≤ 1 := by
  unfold parseSearch at h
  split at h
  · rename_i hflag
    split at h
    · rename_i hmasks
      exact ⟨hmasks.1, hmasks.2.1, hmasks.2.2, flagOfCode_range hflag⟩
    · simp at h
  · simp at h

theorem parseFraming_eq_some {b : List Byte} {f : FramingFields} (h : parseFraming b = some f) :
    field b 11 1 = f.mode.code ∧ field b 12 1 = f.gapLimit ∧ field b 13 1 ≤ 4 ∧
      f.delimiters = fieldBytes b 14 (field b 13 1) ∧ field b 18 1 ≤ 1 ∧ field b 19 1 ≤ 1 ∧
      field b 21 2 = f.recordLength ∧ field b 23 2 = f.maxRecordLength := by
  unfold parseFraming at h
  split at h
  · rename_i hmode hkept hpresent
    split at h
    · rename_i hcount
      obtain rfl := Option.some.inj h
      exact ⟨framingModeOfCode_eq hmode, rfl, hcount, rfl, flagOfCode_range hkept,
        flagOfCode_range hpresent, rfl, rfl⟩
    · simp at h
  · simp at h

/-- R9: a block that SET_GIVEN reads passes every check, byte by byte. -/
theorem givenBlockLegal_of_parseGiven {b : List Byte} {rates : Vector Nat 16} {g : GivenProfile}
    (h : parseGiven b rates = some g) : givenBlockLegal b rates = true := by
  obtain ⟨hv, hrate⟩ := parseGiven_legal h
  unfold parseGiven at h
  split at h
  · rename_i line search framing hline hsearch hframing
    dsimp only at h
    split at h
    · obtain rfl := Option.some.inj h
      obtain ⟨h0, h1, h2, h3, h4⟩ := parseLine_eq_some hline
      obtain ⟨h7, h8, h9, h10⟩ := parseSearch_eq_some hsearch
      obtain ⟨h11, h12, h13, h14, h18, h19, h21, h23⟩ := parseFraming_eq_some hframing
      obtain ⟨hlv, hfv⟩ := Bool.and_eq_true_iff.1 hv
      simp only [LineFields.valid, FramingFields.valid, Bool.and_eq_true, decide_eq_true_eq]
        at hlv hfv
      dsimp only at hlv hfv hrate
      have hat : rates.toList.getD line.rate.val 0 = rates[line.rate.val] := by simp
      have hmode : (match framing.mode.code with
          | 0 => decide (2 ≤ framing.gapLimit)
          | 1 => decide (1 ≤ field b 13 1)
          | _ => decide (framing.recordLength ≤ framing.maxRecordLength)) = true := by
        have hcond := hfv.2
        have hlength : framing.delimiters.length ≤ field b 13 1 := by
          rw [h14]
          exact List.length_take_le ..
        cases hm : framing.mode <;> simp only [hm, FramingMode.code] at hcond ⊢
        · exact hcond
        · have hpos : 0 < framing.delimiters.length :=
            List.length_pos_iff.2 (by simpa using hcond)
          exact decide_eq_true (by omega)
        · exact hcond
      have hrange := hfv.1
      have hcode : framing.mode.code ≤ 2 := by cases framing.mode <;> decide
      simp only [givenBlockLegal, Bool.and_eq_true, decide_eq_true_eq, bne_iff_ne, h0, hat, h1, h3,
        h11, h12, h21, h23]
      exact ⟨by omega, hmode⟩
    · simp at h
  · simp at h

/-! ### The block accepted, by lock state (R10, R17, R104) -/

theorem exec_setGiven (s : State) : exec .setGiven s = execSetGiven s := rfl

/-- R174: a SET_GIVEN of the right shape is carried out on its channel. -/
theorem exec_setGiven_asked {s : State} {c : Channel} {b : List Byte} {f : Frame}
    {rest : List Frame} (h : s.Asked c 0x07#8 b f rest) (hlength : b.length = 25) :
    exec .setGiven s = .next (s.popInbox.executeMutating f fun s => s.setGiven c b) := by
  have hrequest : requestOf f.kind = .setGiven := by rw [h.kind]; rfl
  rw [exec_setGiven, execSetGiven,
    takeRequest_channel h.taken hrequest (by rw [h.body, hlength]) h.channel, h.body]

theorem setGiven_accepted {s : State} {c : Channel} {b : List Byte} {g : GivenProfile}
    (h : parseGiven b s.rates = some g) {u : State}
    (hu : (s.modChan c fun k => { k with given := g }).updatePending c = u) :
    s.setGiven c b = u.answerOk [if (u.chan c).pendingUpdate then 1#8 else 0#8] := by
  simp only [State.setGiven, h, hu]
  cases (u.chan c).pendingUpdate <;> rfl

theorem updatePending_undecided {s : State} {c : Channel}
    (h : (s.chan c).ctl.lock = .off ∨ (s.chan c).ctl.lock = .failed) : s.updatePending c = s := by
  unfold State.updatePending
  rcases h with h | h <;> simp only [h]

theorem updatePending_waits {s : State} {c : Channel}
    (h : (s.chan c).ctl.lock = .quiet ∨ (s.chan c).ctl.lock = .gather ∨
      (s.chan c).ctl.lock = .queued ∨ (s.chan c).ctl.lock = .trial ∨
      (((s.chan c).ctl.lock = .locked ∨ (s.chan c).ctl.lock = .degraded) ∧
        (s.chan c).openRecord? ≠ none)) :
    s.updatePending c = s.modChan c fun k => { k with pendingUpdate := true } := by
  unfold State.updatePending
  rcases h with h | h | h | h | ⟨h | h, hopen⟩
  · simp only [h]
  · simp only [h]
  · simp only [h]
  · simp only [h]
  all_goals
    obtain ⟨r, hr⟩ := Option.ne_none_iff_exists'.1 hopen
    simp only [h, hr]

theorem updatePending_between {s : State} {c : Channel}
    (h : (s.chan c).ctl.lock = .locked ∨ (s.chan c).ctl.lock = .degraded)
    (hopen : (s.chan c).openRecord? = none) :
    s.updatePending c = s.modChan c Chan.applyBetween := by
  unfold State.updatePending
  rcases h with h | h <;> simp only [h, hopen]

theorem updatePending_align {s : State} {c : Channel} (h : (s.chan c).ctl.lock = .align) :
    s.updatePending c = (s.modChan c Chan.applyUpdate).beginHunt c := by
  unfold State.updatePending
  simp only [h]

/-- R17, R104: an application between records, written out. -/
theorem Chan.applyBetween_eq (k : Chan) :
    k.applyBetween =
      { k with
        working :=
          { k.working with
            framing := k.given.framing
            epoch :=
              if k.working.framing = k.given.framing then k.working.epoch
              else k.working.epoch + 1 }
        pendingUpdate := false
        framer :=
          { k.framer with
            gapTimer := if k.given.framing.gapLimit = 0 then none else k.framer.gapTimer
            preamble :=
              if k.working.framing.startChar ≠ none ∧ k.given.framing.startChar = none then 0
              else k.framer.preamble } } := by
  simp only [Chan.applyBetween, Chan.applyUpdate, WorkingProfile.written, epochAfter,
    Framer.reframed, true_and, Option.isSome_iff_ne_none, Option.isNone_iff_eq_none,
    Bool.and_eq_true]

/-- R17, R89: a channel of the given profile `g` whose hunt for the boundary begins again under
it. -/
def Chan.realigned (g : GivenProfile) (k : Chan) : Chan :=
  { k with
    given := g
    working :=
      { k.working with
        framing := g.framing
        epoch := if k.working.framing = g.framing then k.working.epoch else k.working.epoch + 1 }
    pendingUpdate := false
    framer := { k.framer with state := .aligning, gapTimer := none } }

theorem updatePending_realigned {s : State} {c : Channel} {g : GivenProfile}
    (h : (s.chan c).ctl.lock = .align) :
    (s.modChan c fun k => { k with given := g }).updatePending c =
      (s.modChan c (Chan.realigned g)).boundaryIfAtOnce c := by
  rw [updatePending_align (by simpa using h), beginHunt_eq, State.modChan_modChan,
    State.modChan_modChan]
  congr 2
  funext k
  simp only [Chan.applyUpdate, WorkingProfile.written, epochAfter, true_and, Chan.realigned]

/-- Settles O31: the refused blocks, then the four things an accepted one comes to. -/
theorem setGivenReplacesTheProfile : Obligations.SetGivenReplacesTheProfile := by
  refine ⟨fun s c b f rest h hlength hfresh hbad => ?_, ?_⟩
  · have hnone : parseGiven b s.popInbox.rates = none := by
      rw [popInbox_rates, Option.eq_none_iff_forall_ne_some]
      intro g hg
      rw [givenBlockLegal_of_parseGiven hg] at hbad
      exact Bool.noConfusion hbad
    rw [exec_setGiven_asked h hlength]
    exact congrArg _ (executeMutating_refused_popInbox (result := .badValue) h.taken hfresh
      (by simp only [State.setGiven, hnone]))
  intro s c g f rest h hv hrate hfresh
  obtain ⟨hlength, hparse⟩ := givenProfileRoundTrip g s.rates hv hrate
  rw [exec_setGiven_asked h hlength]
  have accepted {u : State} {p : Bool}
      (hu : (s.popInbox.modChan c fun k => { k with given := g }).updatePending c = u)
      (hp : (u.chan c).pendingUpdate = p) (hlink : u.link = s.popInbox.link) :
      s.popInbox.executeMutating f (fun s => s.setGiven c g.encode) =
        { u with link := s.link.answeredCached f rest [0x00#8, if p then 1#8 else 0#8] } := by
    have hrun := setGiven_accepted (s := s.popInbox) hparse hu
    rw [hp] at hrun
    exact executeMutating_fresh_popInbox (run := fun s => s.setGiven c g.encode) h.taken hfresh
      hrun hlink
  have hself : (s.popInbox.modChan c fun k => { k with given := g }).chan c =
      { s.chan c with given := g } := by simp
  refine ⟨fun hl => congrArg _ ?_, fun hl => congrArg _ ?_, fun hl hopen => congrArg _ ?_,
    fun hl => ⟨fun hb => congrArg _ ?_, fun hmode hgap => congrArg _ ?_⟩⟩
  · exact accepted (updatePending_undecided (by rw [hself]; exact hl)) (by rw [hself]) rfl
  · rw [accepted (p := true) (updatePending_waits (by rw [hself]; exact hl)) (by simp) rfl,
      State.modChan_modChan]
    rfl
  · rw [accepted (p := false) (updatePending_between (by rw [hself]; exact hl)
      (by rw [hself]; exact hopen)) (by simp [Chan.applyBetween_eq]) rfl, State.modChan_modChan]
    simp only [Chan.applyBetween_eq]
    rfl
  · have hat : ((s.popInbox.modChan c (Chan.realigned g)).chan c).working.framing.boundaryAtOnce =
        false := by simpa [Chan.realigned, FramingFields.boundaryAtOnce] using hb
    rw [accepted (p := false) (updatePending_realigned hl) (by
      rw [State.boundaryIfAtOnce, if_neg (by rw [hat]; simp)]
      simp [Chan.realigned]) (by
      rw [State.boundaryIfAtOnce, if_neg (by rw [hat]; simp)]
      rfl), State.boundaryIfAtOnce, if_neg (by rw [hat]; simp)]
    rfl
  · have hat : ((s.popInbox.modChan c (Chan.realigned g)).chan c).working.framing.boundaryAtOnce =
        true := by simp [Chan.realigned, FramingFields.boundaryAtOnce, hmode, hgap]
    rw [accepted (p := false) (updatePending_realigned hl) (by
      rw [State.boundaryIfAtOnce, if_pos hat, boundaryFound_eq]
      simp [Chan.realigned]) (by
      rw [State.boundaryIfAtOnce, if_pos hat, boundaryFound_eq]
      rfl), State.boundaryIfAtOnce, if_pos hat, boundaryFound_eq,
      State.chan_modChan_same]
    rfl

end Sys2Proof.Machine
end

section
/-! The operations of a request and the link: what a request does to the channels it does whatever
the link holds, so that its answer can be taken as given first. CONFIGURE, ACQUIRE and RESET_CHANNEL
in those terms. -/

namespace Sys2Proof.Machine

/-- The device with its link replaced. -/
def State.withLink (s : State) (l : HostLink) : State := { s with link := l }

/-- An operation that neither reads nor writes the link. -/
def LinkBlind (f : State → State) : Prop := ∀ s l, f (s.withLink l) = (f s).withLink l

theorem LinkBlind.comp {f g : State → State} (hf : LinkBlind f) (hg : LinkBlind g) :
    LinkBlind fun s => g (f s) := fun s l => by
  dsimp only
  rw [hf s l, hg]

theorem linkBlind_ite {p : State → Prop} [DecidablePred p] {f g : State → State}
    (hp : ∀ s l, p (s.withLink l) ↔ p s) (hf : LinkBlind f) (hg : LinkBlind g) :
    LinkBlind fun s => if p s then f s else g s := fun s l => by
  dsimp only
  simp only [hp, hf s l, hg s l]
  split <;> rfl

@[simp] theorem chan_withLink (s : State) (l : HostLink) (c : Channel) :
    (s.withLink l).chan c = s.chan c := rfl

theorem linkBlind_modChan (c : Channel) (f : Chan → Chan) : LinkBlind fun s => s.modChan c f :=
  fun _ _ => rfl

theorem linkBlind_evaluateFill (c : Channel) : LinkBlind fun s => s.evaluateFill c := fun s l => by
  dsimp only
  rw [evaluateFill_eq, evaluateFill_eq]
  rfl

theorem linkBlind_setHold (c : Channel) : LinkBlind fun s => s.setHold c := fun _ _ => rfl

theorem linkBlind_closing (c : Channel) (cause : Cause) (t : BitVec 32) :
    LinkBlind fun s => s.closing c cause t := fun s l => closing_withLink s l c cause t

theorem linkBlind_giveUpTrial (c : Channel) : LinkBlind fun s => s.giveUpTrial c := fun s l => by
  dsimp only
  rcases ht : s.trial.service with _ | t
  · have hs : s.inService c = false := by simp [State.inService, ht]
    rw [giveUpTrial_notServed hs, giveUpTrial_notServed (s := s.withLink l) hs]
    rfl
  · by_cases hc : t.channel = c
    · rw [giveUpTrial_served ht hc, giveUpTrial_served (s := s.withLink l) ht hc]
      rfl
    · have hs : s.inService c = false := by simp [State.inService, ht, hc]
      rw [giveUpTrial_notServed hs, giveUpTrial_notServed (s := s.withLink l) hs]
      rfl

theorem linkBlind_takeHead : LinkBlind State.takeHead := fun s l => by
  rcases ht : s.trial.service with _ | t
  · rcases hq : s.trial.queue with _ | ⟨c, rest⟩
    · rw [takeHead_empty hq, takeHead_empty (s := s.withLink l) hq]
    · rw [takeHead_taken ht hq, takeHead_taken (s := s.withLink l) ht hq]
      rfl
  · rw [takeHead_busy ht, takeHead_busy (s := s.withLink l) ht]

theorem linkBlind_takeHeadIf (c : Channel) {f : State → State} (hf : LinkBlind f) :
    LinkBlind fun s => (f s).takeHeadIf (s.inService c) := fun s l => by
  dsimp only
  rw [hf s l]
  unfold State.takeHeadIf
  change (if s.inService c = true then _ else _) = _
  split
  · exact linkBlind_takeHead (f s) l
  · rfl

/-- R72: the filter once it has accepted the change that was pending. -/
def Sampler.changeAccepted (p : Sampler) : Sampler :=
  { p with accepted := p.accepted.other, pendingChange := none }

/-- R74: an accepted change, by the lock state in which it comes. -/
theorem deliverEdge_eq (s : State) (c : Channel) (tick : Nat) :
    s.deliverEdge c tick =
      (match (s.chan c).ctl.lock with
        | .off | .failed | .queued | .trial => s.modSampler c Sampler.changeAccepted
        | .quiet => (s.modSampler c Sampler.changeAccepted).gatherStart c
            { tick := tick, level := (s.chan c).sampler.accepted.other }
        | .gather => (s.modSampler c Sampler.changeAccepted).gatherNext c
            { tick := tick, level := (s.chan c).sampler.accepted.other }
        | .align | .locked | .degraded => (s.modSampler c Sampler.changeAccepted).decodeEdge c
            { tick := tick, level := (s.chan c).sampler.accepted.other }) := by
  have hfilter : (s.modSampler c fun p =>
      { p with accepted := (s.chan c).sampler.accepted.other, pendingChange := none }) =
      s.modSampler c Sampler.changeAccepted := State.modChan_congr rfl
  unfold State.deliverEdge
  dsimp only
  rw [hfilter]
  have hlock : ((s.modSampler c Sampler.changeAccepted).chan c).ctl = (s.chan c).ctl := by simp
  rw [hlock] <;> rfl

theorem linkBlind_gatherNext (c : Channel) (e : Edge) : LinkBlind fun s => s.gatherNext c e :=
  LinkBlind.comp (f := fun s => s.modChan c fun k =>
    { k with
      sampler := k.sampler.captureNext e
      ctl := { k.ctl with gatherTimer := some (s.expiryInMs k.ctl.gatherQuietMs) } })
    (fun _ _ => rfl)
    (linkBlind_ite
      (p := fun s => (s.chan c).ctl.gatherTarget ≤ (s.chan c).sampler.ring.length)
      (f := fun s => s.joinQueue c) (g := id) (fun _ _ => .rfl) (fun _ _ => rfl) fun _ _ => rfl)

theorem linkBlind_deliverEdge (c : Channel) (tick : Nat) :
    LinkBlind fun s => s.deliverEdge c tick := fun s l => by
  dsimp only
  rw [deliverEdge_eq, deliverEdge_eq, chan_withLink]
  have hfilter : (s.withLink l).modSampler c Sampler.changeAccepted =
      (s.modSampler c Sampler.changeAccepted).withLink l := rfl
  cases (s.chan c).ctl.lock
  case gather =>
    rw [hfilter]
    exact linkBlind_gatherNext c _ _ l
  all_goals rfl

theorem linkBlind_judgePending (c : Channel) : LinkBlind fun s => s.judgePending c := fun s l => by
  dsimp only
  unfold State.judgePending
  rw [chan_withLink]
  split
  · change (if s.changeMatured c _ = true then _ else _) = _
    split
    · exact linkBlind_deliverEdge c _ s l
    · rfl
  · rfl

theorem linkBlind_undoWork (c : Channel) : LinkBlind fun s => s.undoWork c := fun s l => by
  dsimp only
  unfold State.undoWork
  rw [chan_withLink]
  cases (s.chan c).ctl.lock
  case queued | trial => exact linkBlind_giveUpTrial c s l
  case align | locked | degraded =>
    dsimp only
    rw [closeRecord_eq, closeRecord_eq]
    exact ((linkBlind_closing c .halt s.deviceNow).comp (linkBlind_modChan c _)) s l
  all_goals rfl

/-- R21: OFF entry changes channels, unit and pools, not the link. -/
theorem linkBlind_offEntry (c : Channel) : LinkBlind fun s => s.offEntry c :=
  linkBlind_takeHeadIf c ((linkBlind_undoWork c).comp (linkBlind_modChan c _))

theorem linkBlind_modeEntry (c : Channel) (old new : Mode) :
    LinkBlind fun s => s.modeEntry c old new := by
  unfold State.modeEntry
  cases old <;> cases new
  case listen.off => exact linkBlind_offEntry c
  all_goals exact fun _ _ => rfl

theorem linkBlind_fillEntry (c : Channel) (old new : ChannelConfig) :
    LinkBlind fun s => s.fillEntry c old new :=
  linkBlind_ite (p := fun _ => fillConcerned old new = true) (fun _ _ => .rfl)
    ((linkBlind_evaluateFill c).comp (linkBlind_setHold c)) fun _ _ => rfl

theorem linkBlind_configureChannel (c : Channel) (new : ChannelConfig) :
    LinkBlind fun s => s.configureChannel c new := fun s l => by
  dsimp only
  rw [configureChannel_eq, configureChannel_eq, chan_withLink]
  exact (((linkBlind_modChan c _).comp (linkBlind_judgePending c)).comp
    (linkBlind_modeEntry c (s.chan c).config.mode new.mode)).comp
    (linkBlind_fillEntry c (s.chan c).config new) s l

theorem linkBlind_acquireChannel (c : Channel) : LinkBlind fun s => s.acquireChannel c :=
  linkBlind_takeHeadIf c ((linkBlind_undoWork c).comp
    (g := fun u => u.modChan c fun k =>
      { k with ctl := k.ctl.windowStopped }.freshQuiet u.rates u.now) fun _ _ => rfl)

theorem linkBlind_resetChannel (c : Channel) : LinkBlind fun s => s.resetChannel c :=
  linkBlind_takeHeadIf c ((linkBlind_giveUpTrial c).comp
    (g := fun u =>
      ({ u with pools :=
          { u.pools with
            freeSegments := u.pools.freeSegments + (u.chan c).store.held
            freeDescriptors := u.pools.freeDescriptors + (u.chan c).heldDescriptors } }.modChan c
        fun k => k.reset u.rates u.now).withdraw c) fun _ _ => rfl)

/-! ### The answered requests -/

/-- A blind operation leaves the link alone. -/
theorem LinkBlind.link {g : State → State} (hg : LinkBlind g) (s : State) :
    (g s).link = s.link := by
  have h : g s = (g s).withLink s.link := hg s s.link
  rw [h]
  rfl

/-- R176: a new mutating request that is OK with the fields given, its effect a blind one: the
answer may be entered first. -/
theorem executeMutating_blind_popInbox {s : State} {f : Frame} {rest : List Frame}
    (h : s.CanTake f rest) (hfresh : s.Fresh f) {g : State → State} (hg : LinkBlind g)
    {fields : List Byte} {run : State → Reply}
    (hrun : run s.popInbox = (g s.popInbox).answerOk fields) :
    s.popInbox.executeMutating f run = g (s.repliedCached f rest (0x00#8 :: fields)) := by
  rw [executeMutating_fresh_popInbox h hfresh hrun (hg.link _)]
  exact (hg s.popInbox (s.link.answeredCached f rest (0x00#8 :: fields))).symm

/-- R158: a legal CONFIGURE, its answer entered first. -/
theorem exec_configure_legal {s : State} {c : Channel} {k : ChannelConfig} {f : Frame}
    {rest : List Frame} (h : s.Asked c 0x05#8 k.encode f rest) (hv : k.valid = true)
    (hfresh : s.Fresh f) :
    exec .configure s = .next ((s.repliedCached f rest [0x00#8]).configureChannel c k) := by
  rw [exec_configure_asked h k.fields_encode.1]
  exact congrArg _ (executeMutating_blind_popInbox h.taken hfresh (linkBlind_configureChannel c k)
    (run := fun s => s.configure c k.encode) (fields := [])
    (by simp only [State.configure, parseConfig_encode_valid hv]; rfl))

theorem exec_acquire (s : State) : exec .acquire s = execAcquire s := rfl

/-- R174: an ACQUIRE of the right shape is carried out on its channel. -/
theorem exec_acquire_asked {s : State} {c : Channel} {f : Frame} {rest : List Frame}
    (h : s.Asked c 0x09#8 [] f rest) :
    exec .acquire s = .next (s.popInbox.executeMutating f fun s => s.acquire c) := by
  have hrequest : requestOf f.kind = .acquire := by rw [h.kind]; rfl
  rw [exec_acquire, execAcquire, takeRequest_channel h.taken hrequest (by simp [h.body]) h.channel]

/-- R24: an ACQUIRE outside OFF, its answer entered first. -/
theorem exec_acquire_entered {s : State} {c : Channel} {f : Frame} {rest : List Frame}
    (h : s.Asked c 0x09#8 [] f rest) (hfresh : s.Fresh f) (hl : (s.chan c).ctl.lock ≠ .off) :
    exec .acquire s = .next ((s.repliedCached f rest [0x00#8]).acquireChannel c) := by
  rw [exec_acquire_asked h]
  exact congrArg _ (executeMutating_blind_popInbox h.taken hfresh (linkBlind_acquireChannel c)
    (run := fun s => s.acquire c) (fields := []) (if_neg hl))

theorem exec_resetChannel (s : State) : exec .resetChannel s = execResetChannel s := rfl

/-- R166: a RESET_CHANNEL, its answer entered first. -/
theorem exec_resetChannel_asked {s : State} {c : Channel} {f : Frame} {rest : List Frame}
    (h : s.Asked c 0x13#8 [] f rest) (hfresh : s.Fresh f) :
    exec .resetChannel s = .next ((s.repliedCached f rest [0x00#8]).resetChannel c) := by
  have hrequest : requestOf f.kind = .resetChannel := by rw [h.kind]; rfl
  rw [exec_resetChannel, execResetChannel,
    takeRequest_channel h.taken hrequest (by simp [h.body]) h.channel]
  exact congrArg _ (executeMutating_blind_popInbox h.taken hfresh (linkBlind_resetChannel c)
    (run := fun s => (s.resetChannel c).answer .ok) (fields := []) rfl)

end Sys2Proof.Machine
end

section
/-! An accepted CONFIGURE by its modes (R20, R21, R73, R120, R122, R158), and ACQUIRE (R24). -/

namespace Sys2Proof.Machine

/-! ### The fill state and HOLD under a record (R158, step 3) -/

/-- A channel with this fill state and HOLD output. -/
def Chan.holding (k : Chan) (fill : Fill) (hold : Bool) : Chan :=
  { k with store := { k.store with fill := fill, hold := hold } }

/-- R120, R122: a channel whose fill state and HOLD are as its record and its held segments say. -/
def Chan.fillSettled (k : Chan) : Chan := k.holding k.fillFound (k.config.holdFor k.fillFound)

theorem holdFor_listen {k : ChannelConfig} (h : k.mode = .listen) (fill : Fill) :
    k.holdFor fill = (k.holdEnable && decide (fill = .high)) := by
  rw [ChannelConfig.holdFor, h, decide_eq_true rfl, Bool.and_true]

theorem holdFor_off {k : ChannelConfig} (h : k.mode = .off) (fill : Fill) :
    k.holdFor fill = false := by
  simp [ChannelConfig.holdFor, h]

/-- R120, R122: under the fill law the fill state and HOLD are settled. -/
theorem Chan.FillLaw.settled {k : Chan} (h : k.FillLaw) :
    k.fillFound = k.store.fill ∧ k.config.holdFor k.fillFound = k.store.hold := by
  have hfill : k.fillFound = k.store.fill := by
    have hhigh := h.high
    have hlow := h.low
    unfold Chan.fillFound fillAfter
    cases hf : k.store.fill
    · have := hlow hf
      split
      · omega
      · split <;> rfl
    · have := hhigh hf
      split
      · rfl
      · split
        · omega
        · rfl
  exact ⟨hfill, by rw [hfill, h.hold]; rfl⟩

theorem fillEntry_eq {w : State} {c : Channel} {old new : ChannelConfig}
    (h : fillConcerned old new = true ∨ (w.chan c).FillLaw) :
    w.fillEntry c old new =
      { w.modChan c Chan.fillSettled with
        notices :=
          if (w.chan c).fillFound = (w.chan c).store.fill then w.notices
          else (w.postChan c .fill (.fill 1)).notices } := by
  by_cases hc : fillConcerned old new = true
  · rw [State.fillEntry, if_pos hc, State.setHold, evaluateFill_eq]
    refine State.eq_of_chan (fun d => ?_) rfl
    by_cases hd : d = c
    · subst hd
      simp [Chan.fillSettled, Chan.holding, Chan.storeEvaluated, Chan.holdDue, ChannelConfig.holdFor]
    · simp [State.chan_modChan_other hd]
  · obtain ⟨hfill, hhold⟩ := (h.resolve_left hc).settled
    have hsame := State.modChan_same w c (f := Chan.fillSettled)
      (by rw [Chan.fillSettled, Chan.holding, hhold, hfill])
    rw [State.fillEntry, if_neg hc, hsame, if_pos hfill]

/-! ### A pending change under the new glitch limit (R73) -/

theorem pendingChange_settleSampler (k : Chan) :
    k.settleSampler.sampler.pendingChange = k.sampler.pendingChange := by
  obtain ⟨decode, edges, h, -⟩ := k.sampler.settle_cases k.working.line.polarity
  simp only [Chan.settleSampler, h]

/-- R72: an accepted change is no longer pending. -/
theorem pendingChange_deliverEdge (s : State) (c : Channel) (tick : Nat) :
    ((s.deliverEdge c tick).chan c).sampler.pendingChange = none := by
  rw [deliverEdge_eq]
  cases (s.chan c).ctl.lock
  case gather =>
    simp only [State.gatherNext, State.joinQueue]
    split <;> simp [Sampler.changeAccepted, Sampler.captureNext]
  case align | locked | degraded =>
    simp [State.decodeEdge, pendingChange_settleSampler, Sampler.changeAccepted]
  all_goals simp [Sampler.changeAccepted, State.gatherStart, Sampler.captureFirst]

theorem judgePending_matured {s : State} {c : Channel} {d : Nat}
    (h : (s.chan c).sampler.pendingChange = some d)
    (hd : d + (s.chan c).config.glitchLimit ≤ s.time.ticks) :
    s.judgePending c = s.deliverEdge c d := by
  have hm : s.changeMatured c d = true := decide_eq_true hd
  simp only [State.judgePending, h, hm, if_true]

theorem judgePending_waiting {s : State} {c : Channel}
    (h : ∀ d, (s.chan c).sampler.pendingChange = some d →
      s.time.ticks < d + (s.chan c).config.glitchLimit) : s.judgePending c = s := by
  unfold State.judgePending
  split
  · rename_i d hd
    have hlt := h d hd
    exact if_neg fun hm => Nat.not_le.2 hlt (of_decide_eq_true hm)
  · rfl

theorem exec_filteredEdge (c : Channel) (s : State) :
    exec (.filteredEdge c) s = execFilteredEdge c s := rfl

/-- R72: a change that has persisted by now is delivered now. -/
theorem exec_filteredEdge_matured {s : State} {c : Channel} {d : Nat}
    (hr : s.resetAsserted = false) (h : (s.chan c).sampler.pendingChange = some d)
    (hd : d + (s.chan c).config.glitchLimit ≤ s.time.ticks) :
    exec (.filteredEdge c) s = .next (s.deliverEdge c d) := by
  rw [exec_filteredEdge, execFilteredEdge, whileRunning_running hr]
  simp only [h, advanceTo_past hd]

/-! ### CONFIGURE within a mode (R158) -/

@[simp] theorem chan_configured (s : State) (c : Channel) (k : ChannelConfig) :
    (s.configured c k).chan c = { s.chan c with config := k } := by
  simp [State.configured]

@[simp] theorem configured_time (s : State) (c : Channel) (k : ChannelConfig) :
    (s.configured c k).time = s.time := rfl

/-- R73: a CONFIGURE that finds a change matured is the one that follows its filtered edge. -/
theorem configureChannel_matured {s u : State} {c : Channel} {k : ChannelConfig}
    (hu : (s.configured c k).judgePending c = u)
    (hdone : (u.chan c).sampler.pendingChange = none) :
    s.configureChannel c k =
      (u.modChan c fun ch => { ch with config := (s.chan c).config }).configureChannel c k := by
  have hconfig : (u.chan c).config = k := by
    rw [← hu, (State.keeps_judgePending ..).configs, chan_configured]
  have hback : (u.modChan c fun ch => { ch with config := (s.chan c).config }).configured c k = u := by
    rw [State.configured, State.modChan_modChan]
    refine State.modChan_same u c ?_
    simp only [← hconfig]
  have hidle : u.judgePending c = u := by simp only [State.judgePending, hdone]
  rw [configureChannel_eq, configureChannel_eq, hback, hidle, hu]
  simp

theorem State.Asked.of_link {s t : State} {c : Channel} {kind : Byte} {body : List Byte} {f : Frame}
    {rest : List Frame} (h : s.Asked c kind body f rest) (hr : t.resetAsserted = s.resetAsserted)
    (hl : t.link = s.link) : t.Asked c kind body f rest where
  taken := ⟨hr ▸ h.taken.running, hl ▸ h.taken.dispatching, hl ▸ h.taken.room, hl ▸ h.taken.head⟩
  kind := h.kind
  channel := h.channel
  body := h.body

/-- R73: a legal CONFIGURE that finds a change matured, and the one that follows its edge. -/
theorem exec_configure_matured {s : State} {c : Channel} {k : ChannelConfig} {f : Frame}
    {rest : List Frame} (h : s.Asked c 0x05#8 k.encode f rest) (hv : k.valid = true)
    (hfresh : s.Fresh f) {d : Nat} (hd : (s.chan c).sampler.pendingChange = some d)
    (hm : d + k.glitchLimit ≤ s.time.ticks) :
    exec .configure s = exec .configure (((s.configured c k).deliverEdge c d).modChan c
      fun ch => { ch with config := (s.chan c).config }) := by
  have hjudged : (s.configured c k).judgePending c = (s.configured c k).deliverEdge c d :=
    judgePending_matured (by simpa using hd) (by simpa using hm)
  have hsame := configureChannel_matured hjudged (pendingChange_deliverEdge ..)
  generalize hw : ((s.configured c k).deliverEdge c d).modChan c
    (fun ch => { ch with config := (s.chan c).config }) = w at hsame ⊢
  have hlink : w.link = s.link := by
    rw [← hw]
    exact (linkBlind_deliverEdge c d).link _
  have hreset : w.resetAsserted = s.resetAsserted := by
    rw [← hw, State.modChan_resetAsserted, (State.keeps_deliverEdge ..).rest]
    rfl
  have hanswered : w.link.answeredCached f rest [0x00#8] = s.link.answeredCached f rest [0x00#8] := by
    rw [hlink]
  rw [exec_configure_legal h hv hfresh,
    exec_configure_legal (h.of_link hreset hlink) hv (by unfold State.Fresh; rwa [hlink])]
  refine congrArg _ ?_
  calc (s.repliedCached f rest [0x00#8]).configureChannel c k
      = (s.configureChannel c k).withLink (s.link.answeredCached f rest [0x00#8]) :=
        linkBlind_configureChannel c k s _
    _ = (w.configureChannel c k).withLink (w.link.answeredCached f rest [0x00#8]) := by
        rw [hsame, hanswered]
    _ = (w.repliedCached f rest [0x00#8]).configureChannel c k :=
        (linkBlind_configureChannel c k w _).symm

/-- R158: a CONFIGURE that keeps the mode, no change having matured. -/
theorem configureChannel_kept {s : State} {c : Channel} {k : ChannelConfig}
    (hwaits : ∀ d, (s.chan c).sampler.pendingChange = some d → s.time.ticks < d + k.glitchLimit)
    (hmode : k.mode = (s.chan c).config.mode) :
    s.configureChannel c k = (s.configured c k).fillEntry c (s.chan c).config k := by
  rw [configureChannel_eq, judgePending_waiting (by simpa using hwaits), hmode]
  cases (s.chan c).config.mode <;> rfl

/-- Settles O28: a matured change is accepted under the new record, and else the record is written
and the fill state and HOLD settled. -/
theorem configureWritesTheRecord : Obligations.ConfigureWritesTheRecord := by
  intro s c k f rest h hv hfresh
  refine ⟨fun d hd hm => ⟨(s.configured c k).deliverEdge c d, ?_, ?_⟩, fun hwaits hfill hmode => ?_⟩
  · exact exec_filteredEdge_matured (s := s.configured c k) h.taken.running (by simpa using hd)
      (by simpa using hm)
  · exact exec_configure_matured h hv hfresh hd hm
  · have hconcern : fillConcerned (s.chan c).config k = true ∨
        ((((s.repliedCached f rest [0x00#8]).configured c k)).chan c).FillLaw := by
      rcases hc : fillConcerned (s.chan c).config k
      · right
        rw [chan_configured]
        exact hfill.reconfigured hv hc
      · exact .inl rfl
    have hkept : (s.repliedCached f rest [0x00#8]).configureChannel c k = _ :=
      configureChannel_kept hwaits hmode
    rw [exec_configure_legal h hv hfresh, hkept]
    refine congrArg _ ((fillEntry_eq hconcern).trans ?_)
    rw [chan_configured, State.configured, State.modChan_modChan]
    rfl

/-! ### CONFIGURE into LISTEN (R20) -/

/-- R120: a channel whose fill state has been settled, the crossing posted. -/
def State.fillPosted (s : State) (c : Channel) (fill : Fill) (t : State) : State :=
  if fill = (s.chan c).store.fill then t else t.postChan c .fill (.fill 1)

/-- R158: what a CONFIGURE that changes the mode settles. -/
theorem fillEntry_settled {s w : State} {c : Channel} {old new : ChannelConfig}
    (hmode : old.mode ≠ new.mode) (hfill : (w.chan c).store.fill = (s.chan c).store.fill) :
    w.fillEntry c old new =
      s.fillPosted c (w.chan c).fillFound (w.modChan c Chan.fillSettled) := by
  have hconcern : fillConcerned old new = true := by simp [fillConcerned, hmode]
  rw [fillEntry_eq (.inl hconcern), State.fillPosted, hfill]
  split <;> rfl

/-- R20, R73: CONFIGURE mode LISTEN on a channel in OFF, its filter left as `g` says. -/
theorem configureChannel_listen {s : State} {c : Channel} {k : ChannelConfig}
    {g : Sampler → Sampler} (hold : (s.chan c).config.mode = .off) (hnew : k.mode = .listen)
    (hjudged : (s.configured c k).judgePending c = (s.configured c k).modSampler c g) :
    s.configureChannel c k =
      s.fillPosted c { s.chan c with config := k }.fillFound
        (s.modChan c fun ch =>
          Chan.fillSettled ({ ch with config := k, sampler := g ch.sampler }.freshQuiet s.rates
            s.now)) := by
  rw [configureChannel_eq, hjudged, hold, hnew]
  have hentered : ((s.configured c k).modSampler c g).modeEntry c .off .listen =
      s.modChan c fun ch =>
        { ch with config := k, sampler := g ch.sampler }.freshQuiet s.rates s.now := by
    rw [State.configured, State.modSampler, State.modChan_modChan, State.modeEntry,
      State.listenEntry, State.modChan_modChan]
    rfl
  rw [hentered, fillEntry_settled (s := s) (by rw [hold, hnew]; decide)
    (by rw [State.chan_modChan_same]; rfl), State.chan_modChan_same, State.modChan_modChan]
  rfl

/-- Settles O29: in OFF a matured change moves the filter alone, and the LISTEN entry is a whole copy
and a QUIET entry under the new record. -/
theorem listenEntersQuiet : Obligations.ListenEntersQuiet := by
  intro s c k f rest h hv hfresh hlaw hold hnew p filtered fill entered posted
  have hoff : (s.chan c).ctl.lock = .off := hlaw.mode.2 hold
  have hentry {g : Sampler → Sampler}
      (hjudged : (s.configured c k).judgePending c = (s.configured c k).modSampler c g) :
      exec .configure s = .next (posted (entered (g p))) := by
    rw [exec_configure_legal h hv hfresh]
    have hlinked : ((s.repliedCached f rest [0x00#8]).configured c k).judgePending c =
        ((s.repliedCached f rest [0x00#8]).configured c k).modSampler c g := by
      have hblind : ((s.repliedCached f rest [0x00#8]).configured c k).judgePending c =
          ((s.configured c k).judgePending c).withLink _ :=
        linkBlind_judgePending c (s.configured c k) (s.link.answeredCached f rest [0x00#8])
      rw [hblind, hjudged]
      rfl
    have hconfigured := configureChannel_listen (s := s.repliedCached f rest [0x00#8]) hold hnew
      hlinked
    rw [hconfigured]
    have hchan := congrArg (Chan.holding (({ s.chan c with
      config := k, sampler := g p } : Chan).freshQuiet s.rates s.now) fill) (holdFor_listen hnew fill)
    have hself : ((s.repliedCached f rest [0x00#8]).modChan c fun ch =>
        Chan.fillSettled ({ ch with config := k, sampler := g ch.sampler }.freshQuiet s.rates
          s.now)) = entered (g p) :=
      State.modChan_congr hchan
    refine congrArg _ ?_
    exact congrArg ((s.repliedCached f rest [0x00#8]).fillPosted c fill) hself
  constructor
  · intro hwaits
    refine hentry (g := id) ?_
    rw [judgePending_waiting (by simpa using hwaits)]
    exact (State.modChan_same _ c rfl).symm
  · intro d hd hm
    refine hentry (g := filtered) ?_
    have hfiltered : Sampler.changeAccepted = filtered := by
      funext q
      simp only [Sampler.changeAccepted, filtered]
      cases q.accepted <;> rfl
    rw [judgePending_matured (by simpa using hd) (by simpa using hm), deliverEdge_eq, chan_configured,
      ← hfiltered]
    dsimp only
    rw [hoff]

end Sys2Proof.Machine
end

section
/-! ACQUIRE, and CONFIGURE mode OFF: the work of a state undone, its place in the Trial Unit given up
(R21, R24, R31, R50, R68, R99). -/

namespace Sys2Proof.Machine

/-! ### The place in the Trial Unit given up (R50, R68) -/

@[simp] theorem trial_closing (s : State) (c : Channel) (cause : Cause) (t : BitVec 32) :
    (s.closing c cause t).trial = s.trial := by
  rcases h : (s.chan c).openRecord? with _ | r
  · rw [State.closing_of_none h]
  · rw [State.closing_of_open h]
    rfl

@[simp] theorem resetAsserted_closing (s : State) (c : Channel) (cause : Cause) (t : BitVec 32) :
    (s.closing c cause t).resetAsserted = s.resetAsserted := by
  rw [(State.workOn_closing s c cause t).rest]

theorem exec_trialStart {s : State} (hr : s.resetAsserted = false) :
    exec .trialStart s = .next s.takeHead := whileRunning_running hr State.takeHead

/-- R18, R48: a channel that is not TRIAL is not in service. -/
theorem State.Blocks.notServed {s : State} (hb : s.Blocks) {c : Channel}
    (h : (s.chan c).ctl.lock ≠ .trial) : s.inService c = false := by
  rw [← Bool.not_eq_true]
  exact mt (hb.served c).1 h

/-- R48: a channel in service is not queued. -/
theorem State.Blocks.served_not_queued {s : State} (hb : s.Blocks) {c : Channel}
    (h : s.inService c = true) : c ∉ s.trial.queue := by
  rw [hb.queued, (hb.served c).1 h]
  decide

theorem State.inService_of_service {s : State} {c : Channel} {tr : Trial}
    (hs : s.trial.service = some tr) (hc : tr.channel = c) : s.inService c = true := by
  simp [State.inService, hs, hc]

/-- R50: a channel that is not in service gives up its queue place alone. -/
theorem State.Blocks.giveUp_waiting {s u : State} (hb : s.Blocks) {c : Channel}
    (hu : u.trial = s.trial) (h : (s.chan c).ctl.lock ≠ .trial) :
    (u.giveUpTrial c).takeHeadIf (s.inService c) = { u with trial := s.trial.without c } := by
  have hs := hb.notServed h
  have hsu : u.inService c = false := by rw [← hs, State.inService, hu]; rfl
  rw [hs, giveUpTrial_notServed hsu, State.leaveQueue, hu]
  rfl

/-- R68: a channel in service has its trial abandoned, and the unit takes the next head. -/
theorem State.Blocks.giveUp_served {s u : State} (hb : s.Blocks) {c : Channel} {tr : Trial}
    (hu : u.trial = s.trial) (hs : s.trial.service = some tr) (hc : tr.channel = c) :
    (u.giveUpTrial c).takeHeadIf (s.inService c) = (u.abandoned c tr).takeHead := by
  have hin := State.inService_of_service hs hc
  have hqueue : s.trial.queue.filter (fun d => decide (d ≠ c)) = s.trial.queue :=
    List.filter_eq_self.2 fun d hd => decide_eq_true fun hdc =>
      hb.served_not_queued hin (hdc ▸ hd)
  rw [hin, giveUpTrial_served (hu ▸ hs) hc, hu, hqueue, State.abandoned, hu]
  rfl

/-! ### ACQUIRE (R23, R24) -/

theorem State.LockLaw.replied {s : State} (h : s.LockLaw) (f : Frame) (rest : List Frame)
    (b : List Byte) : (s.repliedCached f rest b).Blocks :=
  (State.lockLaw_iff.1 (show (s.repliedCached f rest b).LockLaw from
    ⟨h.channels, h.once, h.queued, h.served⟩)).2

/-- R24: an accepted ACQUIRE: the open record closed, the channel written, its place given up. -/
theorem State.Blocks.acquireChannel_eq {s : State} (hb : s.Blocks) (c : Channel) :
    s.acquireChannel c =
      (((s.closing c .halt s.deviceNow).modChan c fun k =>
        k.workUndone.freshQuiet s.rates s.now).giveUpTrial c).takeHeadIf (s.inService c) := by
  obtain ⟨htime, hrates⟩ := undoWork_time_rates s c
  have hundone := undoWork_modChan hb (c := c) (Chan.rests_freshQuiet s.rates s.now).blind
    (Chan.rests_freshQuiet s.rates s.now).stats
  rw [← hundone, State.acquireChannel, hrates, State.now, htime]

/-- Settles O32: BAD_STATE in OFF, else the QUIET entry and what it does to the Trial Unit. -/
theorem acquireReturnsToQuiet : Obligations.AcquireReturnsToQuiet := by
  intro s c f rest h hfresh
  refine ⟨fun hoff => ?_, fun hlaw hoff => ?_⟩
  · rw [exec_acquire_asked h]
    exact congrArg _ (executeMutating_refused_popInbox h.taken hfresh
      (run := fun s => s.acquire c) (if_pos hoff))
  · have hb := hlaw.replied f rest [0x00#8]
    have hentered := hb.acquireChannel_eq c
    rw [exec_acquire_entered h hfresh hoff, hentered]
    refine ⟨fun hl => congrArg _ (hb.giveUp_waiting (trial_closing ..) hl), fun tr hs hc => ?_⟩
    exact ⟨_, exec_trialStart ((resetAsserted_closing ..).trans h.taken.running),
      congrArg _ (hb.giveUp_served (trial_closing ..) hs hc)⟩

/-! ### CONFIGURE mode OFF (R21) -/

/-- R99: a record's configuration has no part in its closure. -/
theorem closing_configured (s : State) (c : Channel) (k : ChannelConfig) (cause : Cause)
    (t : BitVec 32) :
    (s.configured c k).closing c cause t = (s.closing c cause t).configured c k := by
  rcases h : (s.chan c).openRecord? with _ | r
  · rw [State.closing_of_none h, State.closing_of_none (by rw [chan_configured]; exact h)]
  · have hclosing : ({ s.chan c with config := k } : Chan).closing c cause t =
        { (s.chan c).closing c cause t with config := k } := by
      rw [Chan.closing_of_open h, Chan.closing_of_open (k := { s.chan c with config := k }) h,
        Chan.updated, Chan.updated]
      dsimp only
      split <;> rfl
    rw [State.closing_of_open h, State.closing_of_open (by rw [chan_configured]; exact h)]
    refine State.eq_of_chan (fun d => ?_) rfl
    by_cases hd : d = c
    · subst hd
      simp [State.configured, hclosing]
    · simp [State.configured, State.chan_modChan_other hd]

theorem State.modChan_comm {s : State} {c d : Channel} (h : d ≠ c) (f g : Chan → Chan) :
    (s.modChan c g).modChan d f = (s.modChan d f).modChan c g := by
  refine State.eq_of_chan (fun e => ?_) rfl
  by_cases hed : e = d
  · subst hed
    simp [State.chan_modChan_other h]
  · by_cases hec : e = c
    · subst hec
      simp [State.chan_modChan_other hed]
    · simp [State.chan_modChan_other hed, State.chan_modChan_other hec]

/-- R49: what the free unit takes does not hang on a channel that is not at the queue's head. -/
theorem takeHead_modChan {s : State} {c : Channel} (h : c ∉ s.trial.queue) (g : Chan → Chan) :
    (s.modChan c g).takeHead = s.takeHead.modChan c g := by
  rcases hs : s.trial.service with _ | t
  · rcases hq : s.trial.queue with _ | ⟨d, rest⟩
    · rw [takeHead_empty hq, takeHead_empty (s := s.modChan c g) hq]
    · have hdc : d ≠ c := fun hdc => h (by simp [hq, hdc])
      rw [takeHead_taken hs hq, takeHead_taken (s := s.modChan c g) hs hq,
        State.chan_modChan_other hdc, State.modCtl, State.modCtl, State.modChan_comm hdc]
      rfl
  · rw [takeHead_busy hs, takeHead_busy (s := s.modChan c g) hs]

theorem takeHead_postChan (s : State) (c : Channel) (kind : ChannelKind) (v : NoticeValues) :
    (s.postChan c kind v).takeHead = s.takeHead.postChan c kind v := by
  rcases hs : s.trial.service with _ | t
  · rcases hq : s.trial.queue with _ | ⟨d, rest⟩
    · rw [takeHead_empty hq, takeHead_empty (s := s.postChan c kind v) hq]
    · rw [takeHead_taken hs hq, takeHead_taken (s := s.postChan c kind v) hs hq]
      rfl
  · rw [takeHead_busy hs, takeHead_busy (s := s.postChan c kind v) hs]

/-- R21: OFF entry: the open record closed, the channel written, its place given up. -/
theorem State.Blocks.offEntry_eq {s : State} (hb : s.Blocks) (c : Channel) :
    s.offEntry c =
      (((s.closing c .halt s.deviceNow).modChan c fun k => k.workUndone.enterOff).giveUpTrial
        c).takeHeadIf (s.inService c) := by
  have hundone := undoWork_modChan hb (c := c) Chan.rests_enterOff.blind Chan.rests_enterOff.stats
  rw [← hundone]
  rfl

theorem not_mem_giveUpTrial (s : State) (c : Channel) : c ∉ (s.giveUpTrial c).trial.queue := by
  obtain ⟨report, abandoned, h⟩ := giveUpTrial_eq s c
  rw [h]
  simp [State.unitLeft]

/-- R49: a channel that is not queued is left as it is when the unit takes its next head. -/
theorem chan_takeHeadIf {s : State} {c : Channel} (h : c ∉ s.trial.queue) (freed : Bool) :
    (s.takeHeadIf freed).chan c = s.chan c := by
  cases freed
  · rfl
  · rw [State.takeHeadIf, if_pos rfl]
    have hsame := takeHead_modChan h fun _ => s.chan c
    rw [State.modChan_same s c rfl] at hsame
    rw [hsame, State.chan_modChan_same]

/-- R31: giving up a trial leaves the channel's configuration and store. -/
theorem giveUp_kept (s : State) (c : Channel) (freed : Bool) :
    (((s.giveUpTrial c).takeHeadIf freed).chan c).config = (s.chan c).config ∧
      (((s.giveUpTrial c).takeHeadIf freed).chan c).store = (s.chan c).store := by
  rw [chan_takeHeadIf (not_mem_giveUpTrial s c)]
  obtain ⟨report, abandoned, h⟩ := giveUpTrial_eq s c
  rw [h]
  simp

/-- R31, R68: a write of the channel that leaves its report alone may come before its trial is given
up. -/
theorem giveUp_modChan {s : State} {c : Channel} {g : Chan → Chan} (hg : Chan.ReportBlind g)
    (hstats : ∀ k, (g k).stats = k.stats) (freed : Bool) :
    ((s.giveUpTrial c).takeHeadIf freed).modChan c g =
      ((s.modChan c g).giveUpTrial c).takeHeadIf freed := by
  have hwritten := giveUpTrial_modChan (s := s) (c := c) hg hstats
  cases freed
  · exact hwritten
  · exact (takeHead_modChan (not_mem_giveUpTrial s c) g).symm.trans (congrArg State.takeHead hwritten)

theorem giveUpTrial_postChan (s : State) (c : Channel) (kind : ChannelKind) (v : NoticeValues) :
    (s.postChan c kind v).giveUpTrial c = (s.giveUpTrial c).postChan c kind v := by
  rcases ht : s.trial.service with _ | t
  · have hs : s.inService c = false := by simp [State.inService, ht]
    rw [giveUpTrial_notServed hs, giveUpTrial_notServed (s := s.postChan c kind v) hs]
    rfl
  · by_cases hc : t.channel = c
    · rw [giveUpTrial_served ht hc, giveUpTrial_served (s := s.postChan c kind v) ht hc]
      rfl
    · have hs : s.inService c = false := by simp [State.inService, ht, hc]
      rw [giveUpTrial_notServed hs, giveUpTrial_notServed (s := s.postChan c kind v) hs]
      rfl

/-- R31, R68: so may a post. -/
theorem giveUp_postChan (s : State) (c : Channel) (kind : ChannelKind) (v : NoticeValues)
    (freed : Bool) :
    ((s.giveUpTrial c).takeHeadIf freed).postChan c kind v =
      ((s.postChan c kind v).giveUpTrial c).takeHeadIf freed := by
  rw [giveUpTrial_postChan]
  cases freed
  · rfl
  · exact (takeHead_postChan ..).symm

/-- R99: a closure leaves the held segments and the fill state. -/
theorem closing_held (s : State) (c : Channel) (cause : Cause) (t : BitVec 32) :
    ((s.closing c cause t).chan c).store.held = (s.chan c).store.held ∧
      ((s.closing c cause t).chan c).store.fill = (s.chan c).store.fill := by
  rcases h : (s.chan c).openRecord? with _ | r
  · rw [State.closing_of_none h]
    exact ⟨rfl, rfl⟩
  · obtain ⟨-, hheld, hfill, -⟩ := ChannelStore.closing_fields (r := r) (s.chan c).store c cause t
    rw [State.closing_of_open h]
    simp [Chan.closing_of_open h, hheld, hfill]

/-- R21, R120, R122: a channel that CONFIGURE mode OFF has entered OFF under its new record. -/
def Chan.offConfigured (k : Chan) (new : ChannelConfig) : Chan :=
  ({ k with config := new }.workUndone.enterOff).fillSettled

/-- R21, R158: CONFIGURE mode OFF, no change having matured: the open record closed, the channel in
OFF with its fill state settled, its place in the unit given up. -/
theorem configureChannel_off {s : State} (hb : s.Blocks) {c : Channel} {k : ChannelConfig}
    (hold : (s.chan c).config.mode = .listen) (hnew : k.mode = .off)
    (hwaits : ∀ d, (s.chan c).sampler.pendingChange = some d → s.time.ticks < d + k.glitchLimit) :
    s.configureChannel c k =
      ((s.fillPosted c { s.chan c with config := k }.fillFound
        ((s.closing c .halt s.deviceNow).modChan c fun ch => ch.offConfigured k)).giveUpTrial
          c).takeHeadIf (s.inService c) := by
  rw [configureChannel_eq, judgePending_waiting (by simpa using hwaits), hold, hnew]
  have hentered : (s.configured c k).modeEntry c .listen .off =
      (((s.closing c .halt s.deviceNow).modChan c fun ch =>
        { ch with config := k }.workUndone.enterOff).giveUpTrial c).takeHeadIf (s.inService c) := by
    rw [State.modeEntry, (hb.configured c k).offEntry_eq, closing_configured, State.configured,
      State.modChan_modChan]
    rfl
  rw [hentered]
  obtain ⟨hheld, hfill⟩ := closing_held s c .halt s.deviceNow
  generalize s.closing c .halt s.deviceNow = u at hheld hfill ⊢
  generalize hw : (u.modChan c fun ch =>
    { ch with config := k }.workUndone.enterOff) = w
  have hself : (w.chan c).config = k ∧ (w.chan c).store = (u.chan c).store := by
    rw [← hw, State.chan_modChan_same]
    exact ⟨rfl, rfl⟩
  obtain ⟨hconfig, hstore⟩ := giveUp_kept w c (s.inService c)
  have hfound : ((((w.giveUpTrial c).takeHeadIf (s.inService c)).chan c)).fillFound =
      ({ s.chan c with config := k } : Chan).fillFound := by
    rw [Chan.fillFound, hconfig, hstore, hself.1, hself.2, hheld, hfill]
    rfl
  rw [fillEntry_settled (s := s) (by rw [hold, hnew]; decide)
    (by rw [hstore, hself.2, hfill]), hfound,
    giveUp_modChan (g := Chan.fillSettled) (fun _ _ _ => rfl) (fun _ => rfl), ← hw,
    State.modChan_modChan, State.fillPosted, State.fillPosted]
  split
  · rfl
  · exact giveUp_postChan ..

/-- Settles O30: OFF entry from any lock state, with what it does to the Trial Unit. -/
theorem modeOffIsEntered : Obligations.ModeOffIsEntered := by
  intro s c k f rest h hv hfresh hlaw hold hnew hwaits fill entered posted
  have hb := hlaw.replied f rest [0x00#8]
  have hconfigured := configureChannel_off hb (c := c) hold hnew hwaits
  have hposted : (s.repliedCached f rest [0x00#8]).fillPosted c fill
      (((s.repliedCached f rest [0x00#8]).closing c .halt s.deviceNow).modChan c
        fun ch => ch.offConfigured k) = posted := by
    refine congrArg ((s.repliedCached f rest [0x00#8]).fillPosted c fill) (State.modChan_congr ?_)
    obtain ⟨hheld, hfill⟩ := closing_held (s.repliedCached f rest [0x00#8]) c .halt s.deviceNow
    generalize ((s.repliedCached f rest [0x00#8]).closing c .halt s.deviceNow).chan c = ch
      at hheld hfill
    have hfound : { ch with config := k }.workUndone.enterOff.fillFound = fill := by
      change fillAfter ch.store.held k.highMark k.lowMark ch.store.fill = fill
      rw [hheld, hfill]
      rfl
    have hinactive := congrArg ({ ch with config := k }.workUndone.enterOff.holding fill)
      (holdFor_off hnew fill)
    rw [Chan.offConfigured, Chan.fillSettled, hfound]
    exact hinactive
  have hgone : exec .configure s =
      .next ((posted.giveUpTrial c).takeHeadIf (s.inService c)) := by
    rw [exec_configure_legal h hv hfresh, hconfigured]
    exact congrArg (fun u : State => Host.Outcome.next ((u.giveUpTrial c).takeHeadIf
      (s.inService c))) hposted
  have hkept : posted.trial = s.trial ∧ posted.resetAsserted = false := by
    have hentered : entered.trial = s.trial ∧ entered.resetAsserted = false :=
      ⟨trial_closing .., (resetAsserted_closing ..).trans h.taken.running⟩
    dsimp only [posted]
    split <;> exact hentered
  rw [hgone]
  exact ⟨fun hl => congrArg _ (hb.giveUp_waiting hkept.1 hl), fun tr hs hc =>
    ⟨_, exec_trialStart hkept.2, congrArg _ (hb.giveUp_served hkept.1 hs hc)⟩⟩

end Sys2Proof.Machine
end

section
/-! The resets: RESET_CHANNEL (R166), RESTART and the soft restart (R168, R169), the hardware reset and
its end (R170). -/

namespace Sys2Proof.Machine

/-! ### RESET_CHANNEL (R165, R166) -/

/-- R166: a channel cleared, field by field. -/
theorem Chan.cleared_eq (k : Chan) (rates : Vector Nat 16) (now : Nat)
    (report : Option TrialReport) :
    k.cleared rates now report =
      { k with
        working :=
          { line := k.given.line
            nominal := rates[k.given.line.rate.val]
            framing := k.given.framing
            confirmed := false
            epoch := 0 }
        pendingUpdate := false
        ctl :=
          { k.ctl with
            lock := if k.config.mode = .listen then .quiet else .off
            retryCount := 0
            windowChars := 0
            windowErrors := 0
            gatherTimer := none
            holdoverTimer := none
            dormantTimer := none
            report := report }
        sampler :=
          { k.sampler.captureCleared with
            decode := .stopped
            edges := []
            offsetCount := 0
            offsetSum := 0
            quietReference := if k.config.mode = .listen then now else k.sampler.quietReference }
        framer := resetFramer
        store := resetChannelStore
        stats := resetStatistics } := by
  unfold Chan.cleared Chan.reset
  dsimp only
  cases k.config.mode <;> rfl

/-- R166: what RESET_CHANNEL leaves, the Trial Unit apart. -/
def State.clearedWith (s : State) (c : Channel) (report : Option TrialReport) : State :=
  { s.modChan c (fun k => k.cleared s.rates s.now report) with
    pools :=
      { s.pools with
        freeSegments := s.pools.freeSegments + (s.chan c).store.held
        freeDescriptors := s.pools.freeDescriptors + (s.chan c).descriptorsHeld }
    notices := (s.withdraw c).notices }

/-- R50, R166: RESET_CHANNEL on a channel that is not in service. -/
theorem State.Blocks.resetChannel_waiting {s : State} (hb : s.Blocks) {c : Channel}
    (h : (s.chan c).ctl.lock ≠ .trial) :
    s.resetChannel c =
      { s.clearedWith c (s.chan c).ctl.report with trial := s.trial.without c } := by
  have hs := hb.notServed h
  rw [resetChannel_eq, hs]
  refine channelCleared_of_giveUp (abandoned := (s.chan c).stats.abandonedTrials) ?_
  rw [giveUpTrial_notServed hs, State.modChan_same s c rfl]
  rfl

/-- R68, R166: RESET_CHANNEL on a channel in service. -/
theorem State.Blocks.resetChannel_served {s : State} (hb : s.Blocks) {c : Channel} {tr : Trial}
    (hs : s.trial.service = some tr) (hc : tr.channel = c) :
    s.resetChannel c =
      { s.clearedWith c (some (tr.abandonedReport s.time.ticks)) with
        trial := { s.trial with service := none } }.takeHead := by
  have hin := State.inService_of_service hs hc
  have hqueue : s.trial.queue.filter (fun d => decide (d ≠ c)) = s.trial.queue :=
    List.filter_eq_self.2 fun d hd => decide_eq_true fun hdc =>
      hb.served_not_queued hin (hdc ▸ hd)
  rw [resetChannel_eq, hin]
  refine congrArg State.takeHead (channelCleared_of_giveUp (s := s)
    (abandoned := count32 (s.chan c).stats.abandonedTrials 1) ?_)
  rw [giveUpTrial_served hs hc, hqueue]
  refine congrArg (fun u : State => { u with trial := { s.trial with service := none } })
    (State.modChan_congr ?_)
  rfl

/-- Settles O43: RESET_CHANNEL by the channel's place in the Trial Unit. -/
theorem resetChannelClearsTheChannel : Obligations.ResetChannelClearsTheChannel := by
  intro s c f rest h hfresh hlaw cleared
  have hb := hlaw.replied f rest [0x00#8]
  have hcleared (report : Option TrialReport) :
      (s.repliedCached f rest [0x00#8]).clearedWith c report = cleared report := by
    have hchan : (fun k : Chan => k.cleared s.rates s.now report) = _ :=
      funext fun k => k.cleared_eq s.rates s.now report
    rw [State.clearedWith]
    change ({ (s.repliedCached f rest [0x00#8]).modChan c (fun k => k.cleared s.rates s.now report)
      with pools := _, notices := _ } : State) = _
    rw [hchan]
    rfl
  rw [exec_resetChannel_asked h hfresh]
  refine ⟨fun hl => ?_, fun tr hs hc => ?_, by decide⟩
  · have hreset := hb.resetChannel_waiting (c := c) hl
    rw [hreset, hcleared]
    rfl
  · have hreset := hb.resetChannel_served (c := c) hs hc
    rw [hreset, hcleared]
    exact ⟨_, exec_trialStart h.taken.running, rfl⟩

/-! ### RESTART and the soft restart (R168, R169, R178) -/

theorem exec_restart (s : State) : exec .restart s = execRestart s := rfl

/-- R168, R178: a RESTART is answered OK, and dispatch stops. -/
theorem exec_restart_asked {s : State} {f : Frame} {rest : List Frame}
    (h : s.AskedDevice 0x14#8 [] f rest) :
    exec .restart s =
      .next { s with link :=
        { s.link with
          inbox := []
          responses := s.link.responses ++ [responseTo f [0x00#8]]
          restart := .awaiting } } := by
  have hrequest : requestOf f.kind = .restart := by rw [h.kind]; rfl
  rw [exec_restart, execRestart,
    takeRequest_device h.taken hrequest (by simp [h.body]) h.channel]
  rfl

theorem exec_softRestart (s : State) : exec .softRestart s = execSoftRestart s := rfl

/-- R169: the report of a channel whose trial the soft restart abandons, and of any other. -/
theorem restartReport_unserved {s : State} {c : Channel} (h : s.inService c = false) :
    s.restartReport c = (s.chan c).ctl.report := by
  unfold State.inService at h
  unfold State.restartReport
  split
  · rename_i t ht
    rw [ht] at h
    exact if_neg (of_decide_eq_false h)
  · rfl

theorem restartReport_served {s : State} {c : Channel} {tr : Trial}
    (hs : s.trial.service = some tr) (hc : tr.channel = c) :
    s.restartReport c = some (tr.abandonedReport s.time.ticks) := by
  simp only [State.restartReport, hs, hc, if_true]
  rfl

/-- Settles O44: the answered RESTART, and the soft restart block by block and channel by channel. -/
theorem restartResetsTheDevice : Obligations.RestartResetsTheDevice := by
  refine ⟨fun s f rest h => exec_restart_asked h, fun s hr hdue => ⟨s.softRestart, ?_, ?_, ?_⟩⟩
  · rw [exec_softRestart, execSoftRestart, whileRunning_running hr, if_pos hdue]
  · exact softRestart_rest s
  · intro c k
    have hreport : (s.softRestart.chan c).ctl.report = s.restartReport c := by
      rw [chan_softRestart]
      rfl
    refine ⟨?_, fun h => ?_, fun tr hs hc => ?_⟩
    · rw [hreport, chan_softRestart, Chan.cleared_eq]
      rfl
    · rw [hreport, restartReport_unserved h]
    · rw [hreport, restartReport_served hs hc]

/-! ### The hardware reset and its end (R170) -/

/-- R71, R154, R170: RESET deasserted at tick 0. -/
theorem deassertReset_eq {s : State} (h : s.time = resetTime) (lsel1 lsel0 : Bool) :
    s.deassertReset lsel1 lsel0 =
      { s with
        resetAsserted := false
        chans := resetChans s.lineIn
        link := { s.link with selection := selectionOf lsel1 lsel0 }
        notices := { resetNotices with pending := [startedNotice (startReasonOf s.resetCause)] } } := by
  simp [State.deassertReset, State.startedPost, State.post, resetNotices, postTo, startedNotice,
    State.now, h, resetTime]

/-- Settles O45: both are the reset values, with the straps and the lines taken at the end. -/
theorem hardwareResetRestoresTheDevice : Obligations.HardwareResetRestoresTheDevice := by
  intro s cause lsel1 lsel0 moved reason started selection fresh asserted
  have hreason : startReasonOf cause = reason := by cases cause <;> rfl
  have hselection : selectionOf lsel1 lsel0 = selection := by cases lsel1 <;> cases lsel0 <;> rfl
  refine ⟨?_, ?_, fun hr => ?_⟩
  · change Host.Outcome.next (s.hardwareReset cause) = _
    rw [hardwareReset_eq, hreason]
    rfl
  · have hdeasserted := deassertReset_eq (s := { asserted with lineIn := moved }) rfl lsel1 lsel0
    rw [hselection, hreason] at hdeasserted
    change Host.Outcome.next ({ asserted with lineIn := moved }.deassertReset lsel1 lsel0) = _
    rw [hdeasserted]
    rfl
  · change Host.Outcome.next (if s.resetAsserted then s.deassertReset lsel1 lsel0 else s) = _
    rw [hr]
    rfl

end Sys2Proof.Machine
end

section
/-! The output pins (R122, R171), posts (R143, R145), and the order and the kind values of the notices
(R144, R146, R181). -/

namespace Sys2Proof.Machine

/-! ### The pins (R122, R170, R171) -/

theorem attnActive_iff (s : State) :
    s.attnActive = true ↔ s.resetAsserted = false ∧
      (s.link.responses ≠ [] ∨ s.link.transmit ≠ none ∨
        (s.notices.pending ≠ [] ∧ 1 ≤ s.notices.credit)) := by
  simp [State.attnActive, State.running, or_assoc, Option.isSome_iff_ne_none]

theorem holdPin_running {s : State} (hr : s.resetAsserted = false) (c : Channel) :
    s.holdPin c = holdLevel (s.chan c).store.hold (s.chan c).config.holdPolarity := by
  simp [State.holdPin, State.running, hr]

/-- Settles O42: each pin by the fields that decide it. -/
theorem outputPinsFollowTheState : Obligations.OutputPinsFollowTheState := by
  intro s c
  refine ⟨?_, fun hr => ?_, fun hr hp => ?_, fun hr hp => ?_⟩
  · rw [← attnActive_iff, State.attnPin]
    cases s.attnActive <;> simp
  · simp [State.holdPin, State.running, hr]
  · rw [holdPin_running hr, hp]
    cases (s.chan c).store.hold <;> simp [holdLevel]
  · rw [holdPin_running hr, hp]
    cases (s.chan c).store.hold <;> simp [holdLevel]

/-! ### Posts (R143, R145) -/

/-- R143: a post to an idle slot makes it pending behind the others. -/
theorem postTo_idle {slot : Slot} {ns : List Notice} (h : ∀ n ∈ ns, n.slot ≠ slot)
    (v : NoticeValues) (us : Nat) :
    postTo slot v us ns = ns ++ [{ slot := slot, postedAt := us, count := 1, values := v }] := by
  induction ns with
  | nil => rfl
  | cons n rest ih =>
    rw [postTo, if_neg (h n (by simp)), ih fun m hm => h m (by simp [hm])]
    rfl

/-- R143: a post to a pending slot is merged in its place. -/
theorem postTo_pending {slot : Slot} {before behind : List Notice} {n : Notice}
    (hn : n.slot = slot) (h : ∀ m ∈ before, m.slot ≠ slot) (v : NoticeValues) (us : Nat) :
    postTo slot v us (before ++ n :: behind) = before ++ n.merged v :: behind := by
  induction before with
  | nil => exact if_pos hn
  | cons m rest ih =>
    rw [List.cons_append, postTo, if_neg (h m (by simp)), ih fun k hk => h k (by simp [hk])]
    rfl

/-- R145: values that are no accumulator are replaced. -/
theorem merge_replaced {v : NoticeValues} (hlink : ∀ a b d e, v ≠ .linkError a b d e)
    (hpool : ∀ a, v ≠ .pool a) (hfill : ∀ a, v ≠ .fill a) (hdropped : ∀ a, v ≠ .dropped a)
    (old : NoticeValues) : old.merge v = v := by
  unfold NoticeValues.merge
  split
  · exact absurd rfl (hlink _ _ _ _)
  · exact absurd rfl (hpool _)
  · exact absurd rfl (hfill _)
  · exact absurd rfl (hdropped _)
  · rfl

/-- Settles O40: the post by the state of its slot, and the merged values by kind. -/
theorem postMergesIntoItsSlot : Obligations.PostMergesIntoItsSlot := by
  intro s slot v
  refine ⟨fun hidle => ?_, fun before n behind hpending hn hbefore => ?_⟩
  · rw [State.post, postTo_idle hidle]
    rfl
  · refine ⟨n.values.merge v, ?_, ?_, ?_, ?_, ?_, fun hlink hpool hfill hdropped =>
      merge_replaced hlink hpool hfill hdropped _⟩
    · rw [State.post, hpending, postTo_pending hn hbefore]
      rfl
    all_goals
      intros
      simp only [*]
      rfl

/-! ### The first notice (R146) -/

theorem firstNotice_mem {ns : List Notice} {m : Notice} (h : firstNotice ns = some m) : m ∈ ns := by
  induction ns with
  | nil => simp [firstNotice] at h
  | cons n rest ih =>
    rcases hrest : firstNotice rest with _ | k
    · simp only [firstNotice, hrest, Option.some.injEq] at h
      simp [h]
    · simp only [firstNotice, hrest] at h
      split at h
      · exact List.mem_cons_of_mem _ (ih (hrest.trans h))
      · simp [Option.some.inj h]

/-- R146: the notice that stands before every other one, and none before it, is the first. -/
theorem firstNotice_eq {ns : List Notice} {n : Notice} (hn : n ∈ ns)
    (h : ∀ m ∈ ns, m ≠ n → n.before m = true ∧ m.before n = false) : firstNotice ns = some n := by
  induction ns with
  | nil => simp at hn
  | cons x rest ih =>
    have hbehind : ∀ m ∈ rest, m ≠ n → n.before m = true ∧ m.before n = false :=
      fun m hm => h m (List.mem_cons_of_mem _ hm)
    by_cases hx : x = n
    · subst hx
      rcases hrest : firstNotice rest with _ | m
      · simp only [firstNotice, hrest]
      · simp only [firstNotice, hrest]
        by_cases hm : m = x
        · simp [hm]
        · simp [(hbehind m (firstNotice_mem hrest) hm).2]
    · have hrest := ih ((List.mem_cons.1 hn).resolve_left (Ne.symm hx)) hbehind
      simp only [firstNotice, hrest, (h x (by simp) hx).1, if_true]

theorem Notice.before_iff (a b : Notice) :
    a.before b = true ↔ a.slot.rank < b.slot.rank ∨
      (a.slot.rank = b.slot.rank ∧
        (a.postedAt < b.postedAt ∨
          (a.postedAt = b.postedAt ∧ a.slot.number < b.slot.number))) := by
  simp [Notice.before]

/-- R146: the notice on offer. -/
theorem offeredNotice_eq {s : State} {n : Notice} (hcredit : 1 ≤ s.notices.credit)
    (hn : n ∈ s.notices.pending)
    (h : ∀ m ∈ s.notices.pending, m ≠ n →
      n.slot.rank < m.slot.rank ∨
        (n.slot.rank = m.slot.rank ∧
          (n.postedAt < m.postedAt ∨
            (n.postedAt = m.postedAt ∧ n.slot.number < m.slot.number)))) :
    s.offeredNotice = some n := by
  rw [State.offeredNotice, if_pos hcredit]
  refine firstNotice_eq hn fun m hm hmn => ⟨(Notice.before_iff n m).2 (h m hm hmn), ?_⟩
  rw [← Bool.not_eq_true, Notice.before_iff]
  have := h m hm hmn
  omega

/-! ### The kind values (R144, R151, R181) -/

theorem chan_kindValues {s : State} {n : Notice} {c : Channel} {kind : ChannelKind}
    (h : n.slot = .chan c kind) : s.ChannelKindValues c n.values (s.kindValues n) := by
  have howner : n.slot.owner = c := by rw [h]; rfl
  unfold State.ChannelKindValues State.kindValues
  rw [howner]
  cases n.values with
  | locked epoch nominal format regained => cases regained <;> rfl
  | degraded reason errors offset => cases reason <;> rfl
  | released reason => cases reason <;> rfl
  | fill crossings =>
    dsimp only
    cases (s.chan c).store.fill <;> rfl
  | dropped count =>
    intro _ seq hseq
    have hlast : (s.chan c).store.lastDropped = some seq := hseq
    dsimp only
    rw [hlast]
    rfl
  | started | linkError | pool => trivial
  | failed | profile | ready | expired => rfl

theorem device_kindValues (s : State) (n : Notice) :
    s.DeviceKindValues n.values (s.kindValues n) := by
  unfold State.DeviceKindValues State.kindValues
  cases n.values with
  | started reason revision => cases reason <;> rfl
  | linkError | pool => rfl
  | _ => trivial

/-- R151, R181: the body of a notice, byte by byte. -/
theorem noticeBody_eq (s : State) (n : Notice) :
    s.noticeBody n =
      [BitVec.ofNat 8 n.slot.kindCode, n.slot.channelCode, BitVec.ofNat 8 n.count,
          s.lockCodeFor n.slot] ++
        le 2 s.notices.nextSeq.toNat ++ le 4 (n.postedAt % 4294967296) ++ s.kindValues n := by
  rw [State.noticeBody, BitVec.toNat_ofNat]
  rfl

end Sys2Proof.Machine
end

section
/-! The receiver (R172, R173): what a byte does by receiver state, what it owes before, and that
receiving has no part in what the device sends (R171). -/

namespace Sys2Proof.Machine

/-! ### A frame finished (R173) -/

theorem modReceiver_modLink (s : State) (f : Receiver → Receiver) (g : HostLink → HostLink) :
    (s.modReceiver f).modLink g = s.modLink fun l => g { l with receiver := f l.receiver } := rfl

/-- R178: while a RESTART waits a frame is discarded uncounted. -/
theorem finishFrame_waiting {s : State} (h : s.link.restart ≠ .idle) :
    s.finishFrame = s.modReceiver Receiver.rest := if_pos h

theorem finishFrame_sound {s : State} (h : s.link.restart = .idle)
    (hc : s.link.receiver.checks = true) (hroom : s.link.inbox.length < 4) :
    s.finishFrame = (s.modReceiver Receiver.rest).modLink fun l =>
      { l with inbox := l.inbox ++ [s.link.receiver.frame] } := by
  refine (if_neg (not_not.2 h)).trans ?_
  rw [if_pos hc]
  exact if_pos hroom

theorem finishFrame_overrun {s : State} (h : s.link.restart = .idle)
    (hc : s.link.receiver.checks = true) (hfull : 4 ≤ s.link.inbox.length) :
    s.finishFrame = (s.modReceiver Receiver.rest).countDiscard .overrun := by
  refine (if_neg (not_not.2 h)).trans ?_
  rw [if_pos hc]
  exact if_neg (Nat.not_lt.2 hfull)

theorem finishFrame_crc {s : State} (h : s.link.restart = .idle)
    (hc : s.link.receiver.checks = false) :
    s.finishFrame = (s.modReceiver Receiver.rest).countDiscard .crc := by
  refine (if_neg (not_not.2 h)).trans ?_
  exact if_neg (by rw [hc]; exact Bool.false_ne_true)

/-! ### What is owed before a byte (R172) -/

/-- R172: a complete or over-long frame is not inside a frame. -/
theorem insideFrame_iff (r : Receiver) :
    r.insideFrame = true ↔
      (r.state = .header ∨ r.state = .body ∨ r.state = .check) ∧ r.complete = false ∧
        r.overLong = false := by
  unfold Receiver.insideFrame
  cases hr : r.state <;> simp

theorem settleReceiver_complete {s : State} (h : s.link.receiver.complete = true) :
    s.settleReceiver = s.finishFrame := if_pos h

theorem settleReceiver_overLong {s : State} (h : s.link.receiver.overLong = true) :
    s.settleReceiver = s.discardLength := by
  have hc : s.link.receiver.complete ≠ true := by
    simp only [Receiver.overLong, Bool.and_eq_true, decide_eq_true_eq] at h
    simp [Receiver.complete, h.1.1]
  exact (if_neg hc).trans (if_pos h)

theorem settleReceiver_timedOut {s : State} (h : s.link.receiver.insideFrame = true)
    (hlate : s.link.receiver.timeoutTick ≤ s.now) : s.settleReceiver = s.discardTimeout := by
  obtain ⟨-, hc, ho⟩ := (insideFrame_iff _).1 h
  refine (if_neg (by rw [hc]; exact Bool.false_ne_true)).trans
    ((if_neg (by rw [ho]; exact Bool.false_ne_true)).trans (if_pos ?_))
  rw [h, decide_eq_true hlate]
  rfl

theorem settleReceiver_none {s : State} (hc : s.link.receiver.complete = false)
    (ho : s.link.receiver.overLong = false)
    (hearly : s.link.receiver.insideFrame = true → s.now < s.link.receiver.timeoutTick) :
    s.settleReceiver = s := by
  refine (if_neg (by rw [hc]; exact Bool.false_ne_true)).trans
    ((if_neg (by rw [ho]; exact Bool.false_ne_true)).trans (if_neg fun h => ?_))
  rw [Bool.and_eq_true, decide_eq_true_eq] at h
  exact absurd (hearly h.1) (Nat.not_lt.2 h.2)

/-! ### Receiving beside sending (R171) -/

/-- The link with another selection and other outbound parts. -/
def HostLink.outbound (l : HostLink) (selection : LinkSelection) (transmit : Option Transmit)
    (responses : List Response) (sdo : Byte) : HostLink :=
  { l with selection := selection, transmit := transmit, responses := responses, sdo := sdo }

/-- The device with another link selection and other outbound parts. -/
def State.outbound (s : State) (selection : LinkSelection) (transmit : Option Transmit)
    (responses : List Response) (sdo : Byte) : State :=
  s.modLink fun l => l.outbound selection transmit responses sdo

section
variable (s : State) (selection : LinkSelection) (transmit : Option Transmit)
  (responses : List Response) (sdo : Byte)

theorem countDiscard_outbound (d : Discard) :
    (s.outbound selection transmit responses sdo).countDiscard d =
      (s.countDiscard d).outbound selection transmit responses sdo := by
  by_cases h : s.link.restart = .idle
  · rw [State.countDiscard, State.countDiscard, if_pos h]
    exact if_pos h
  · rw [State.countDiscard, State.countDiscard, if_neg h]
    exact if_neg h

theorem finishFrame_outbound :
    (s.outbound selection transmit responses sdo).finishFrame =
      s.finishFrame.outbound selection transmit responses sdo := by
  have hcount (d : Discard) := countDiscard_outbound (s.modReceiver Receiver.rest) selection
    transmit responses sdo d
  by_cases hi : s.link.restart = .idle
  · rcases hc : s.link.receiver.checks with _ | _
    · rw [finishFrame_crc hi hc, ← hcount]
      exact finishFrame_crc (s := s.outbound ..) hi hc
    · rcases Nat.lt_or_ge s.link.inbox.length 4 with hroom | hfull
      · rw [finishFrame_sound hi hc hroom]
        exact finishFrame_sound (s := s.outbound ..) hi hc hroom
      · rw [finishFrame_overrun hi hc hfull, ← hcount]
        exact finishFrame_overrun (s := s.outbound ..) hi hc hfull
  · rw [finishFrame_waiting hi]
    exact finishFrame_waiting (s := s.outbound ..) hi

theorem settleReceiver_outbound :
    (s.outbound selection transmit responses sdo).settleReceiver =
      s.settleReceiver.outbound selection transmit responses sdo := by
  have hcount (d : Discard) := countDiscard_outbound (s.modReceiver Receiver.rest) selection
    transmit responses sdo d
  rcases hc : s.link.receiver.complete with _ | _
  · rcases ho : s.link.receiver.overLong with _ | _
    · by_cases hlate : s.link.receiver.insideFrame = true ∧ s.link.receiver.timeoutTick ≤ s.now
      · rw [settleReceiver_timedOut hlate.1 hlate.2, State.discardTimeout, ← hcount]
        exact settleReceiver_timedOut (s := s.outbound ..) hlate.1 hlate.2
      · have hearly (h : s.link.receiver.insideFrame = true) :
            s.now < s.link.receiver.timeoutTick := Nat.not_le.1 fun hle => hlate ⟨h, hle⟩
        rw [settleReceiver_none hc ho hearly]
        exact settleReceiver_none (s := s.outbound ..) hc ho hearly
    · rw [settleReceiver_overLong ho, State.discardLength, ← hcount]
      exact settleReceiver_overLong (s := s.outbound ..) ho
  · rw [settleReceiver_complete hc, ← finishFrame_outbound]
    exact settleReceiver_complete (s := s.outbound ..) hc

/-- R171: a byte is received whatever the selection and whatever is being sent. -/
theorem receiveByte_outbound (b : Byte) :
    (s.outbound selection transmit responses sdo).receiveByte b =
      (s.receiveByte b).outbound selection transmit responses sdo := by
  unfold State.receiveByte
  rw [settleReceiver_outbound]
  rfl

end

end Sys2Proof.Machine
end

section
/-! The checks of received frames (R172, R173), and the bytes that move the receiver (R171, R172). -/

namespace Sys2Proof.Machine

/-! ### A frame in the receiver's buffer (R173, R179) -/

theorem length_coveredBytes (kind tag channel : Byte) (body : List Byte) :
    (coveredBytes kind tag channel body).length = 5 + body.length := by
  simp only [coveredBytes, List.length_append, length_le, List.length_cons, List.length_nil]

/-- R179: the length field of a frame whose first two bytes are in. -/
theorem field_coveredBytes {kind tag channel : Byte} {body : List Byte} (h : body.length ≤ 1088) :
    field (coveredBytes kind tag channel body) 0 2 = body.length := by
  rw [coveredBytes, List.append_assoc, field_append_left (by simp), field_le]
  omega

section
variable {r : Receiver} {kind tag channel hi lo : Byte} {body : List Byte}
  (hb : r.buffer = coveredBytes kind tag channel body ++ [hi, lo]) (hlen : body.length ≤ 1088)
include hb hlen

theorem length_of_buffer : r.length = body.length := by
  rw [Receiver.length, hb, field_append_left (by rw [length_coveredBytes]; omega),
    field_coveredBytes hlen]

theorem complete_of_buffer (hs : r.state = .check) : r.complete = true := by
  rw [Receiver.complete, hs, length_of_buffer hb hlen, hb]
  simp [length_coveredBytes]
  omega

theorem covered_of_buffer : r.covered = coveredBytes kind tag channel body := by
  rw [Receiver.covered, length_of_buffer hb hlen, hb,
    List.take_left' (length_coveredBytes ..)]

theorem frame_of_buffer :
    r.frame =
      { kind := kind, tag := tag, channel := channel, body := body, check := hi ++ lo } := by
  have hspelled : r.buffer =
      byte body.length :: byte (body.length / 256) :: kind :: tag :: channel :: (body ++ [hi, lo]) := by
    rw [hb]
    simp [coveredBytes, le, byte]
  have hbody : fieldBytes r.buffer 5 body.length = body := by
    simp [fieldBytes, hspelled]
  have hfirst : r.buffer.getD (5 + body.length) 0 = hi := by
    simp [hspelled, Nat.add_comm 5, List.getD_eq_getElem?_getD]
  have hsecond : r.buffer.getD (6 + body.length) 0 = lo := by
    simp [hspelled, Nat.add_comm 6, List.getD_eq_getElem?_getD]
  rw [Receiver.frame, length_of_buffer hb hlen]
  rw [hbody, hfirst, hsecond, hspelled]
  rfl

theorem checks_of_buffer : r.checks = decide (hi ++ lo = crc16 (coveredBytes kind tag channel body)) := by
  rw [Receiver.checks, covered_of_buffer hb hlen, frame_of_buffer hb hlen, decide_eq_decide]
  exact eq_comm

end

/-! ### The frame commands (R172, R173) -/

theorem exec_frameReceived {s : State} (hr : s.resetAsserted = false)
    (hc : s.link.receiver.complete = true) : exec .frameReceived s = .next s.finishFrame :=
  (whileRunning_running hr _).trans (congrArg _ (if_pos hc))

theorem exec_lengthDiscard {s : State} (hr : s.resetAsserted = false)
    (ho : s.link.receiver.overLong = true) : exec .lengthDiscard s = .next s.discardLength :=
  (whileRunning_running hr _).trans (congrArg _ (if_pos ho))

theorem exec_receiveTimeout {s : State} (hr : s.resetAsserted = false)
    (hi : s.link.receiver.insideFrame = true) :
    exec .receiveTimeout s =
      .next (s.advanceTo s.link.receiver.timeoutTick).discardTimeout :=
  (whileRunning_running hr _).trans (congrArg _ (if_pos hi))

/-- R173, R178: a discard with its count, the receiver back in HUNT. -/
theorem countDiscard_rest {s u : State} (h : u.link.restart = s.link.restart) (d : Discard) :
    (u.modReceiver Receiver.rest).countDiscard d =
      if s.link.restart = .idle then
        (u.modReceiver Receiver.rest).post (.device .linkError) d.values
      else u.modReceiver Receiver.rest := by
  rw [← h]
  rfl

/-- R172: an over-long frame by its two length bytes. -/
theorem overLong_of_buffer {r : Receiver} {lo hi : Byte} (hs : r.state = .header)
    (hb : r.buffer = [lo, hi]) (hlong : 1088 < lo.toNat + 256 * hi.toNat) : r.overLong = true := by
  have hlength : r.length = lo.toNat + 256 * hi.toNat := by
    rw [Receiver.length, hb]
    rfl
  simp [Receiver.overLong, hs, hb, hlength, hlong]

/-- Settles O47: the checks of a complete frame, and the discards by length and by time. -/
theorem receivedFramesAreChecked : Obligations.ReceivedFramesAreChecked := by
  intro s hr r resting counted
  refine ⟨?_, fun lo hi hs hb hlong => ?_, fun hs ho hc => ?_⟩
  · intro kind tag channel body hi lo hs hlen hb sound
    have hchecks : s.link.receiver.checks = decide sound := checks_of_buffer hb hlen
    have hdone := exec_frameReceived hr (complete_of_buffer hb hlen hs)
    rw [hdone]
    refine ⟨fun hw => congrArg _ (finishFrame_waiting hw), fun hi hsound hroom => ?_,
      fun hi hsound hfull => ?_, fun hsound => ?_⟩
    · rw [finishFrame_sound hi (by rw [hchecks, decide_eq_true hsound]) hroom,
        frame_of_buffer hb hlen]
      rfl
    · rw [finishFrame_overrun hi (by rw [hchecks, decide_eq_true hsound]) hfull]
      exact congrArg _ (countDiscard_rest rfl .overrun)
    · by_cases hi : s.link.restart = .idle
      · rw [finishFrame_crc hi (by rw [hchecks, decide_eq_false hsound])]
        exact congrArg _ (countDiscard_rest rfl .crc)
      · rw [finishFrame_waiting hi]
        exact congrArg _ (if_neg hi).symm
  · rw [exec_lengthDiscard hr (overLong_of_buffer hs hb hlong)]
    exact congrArg _ (countDiscard_rest rfl .length)
  · rw [exec_receiveTimeout hr ((insideFrame_iff _).2 ⟨hs, hc, ho⟩)]
    exact congrArg _ (countDiscard_rest (by simp) .timeout)

end Sys2Proof.Machine
end

section
/-! The bytes that move the receiver (R171, R172), and the frame they make up (R173, R179). -/

namespace Sys2Proof.Machine

/-! ### A byte on a UART (R172) -/

theorem exec_receivedByte {s : State} (hr : s.resetAsserted = false) (e : Nat) (b : Byte)
    (scsLow : Bool) :
    exec (.receivedByte e b scsLow) s =
      .next ((s.advanceTo (s.time.ticks + e)).linkByte b scsLow) :=
  whileRunning_running hr fun s => (s.advanceBy e).linkByte b scsLow

theorem linkByte_uart {s : State} (h : s.link.selection ≠ .spi) (b : Byte) (scsLow : Bool) :
    s.linkByte b scsLow = s.receiveByte b := if_neg h

theorem now_advanced (s : State) (e : Nat) :
    (s.advanceTo (s.time.ticks + e)).time.ticks = s.time.ticks + e := by
  rw [advanceTo_ticks]
  omega

theorem exec_receivedByte_uart {s : State} (hr : s.resetAsserted = false)
    (h : s.link.selection ≠ .spi) (e : Nat) (b : Byte) (scsLow : Bool) :
    exec (.receivedByte e b scsLow) s =
      .next ((s.advanceTo (s.time.ticks + e)).receiveByte b) := by
  rw [exec_receivedByte hr, linkByte_uart (by simpa using h)]

/-- R172: a receiver that owes nothing at tick `now`. -/
structure Receiver.Settled (r : Receiver) (now : Nat) : Prop where
  complete : r.complete = false
  overLong : r.overLong = false
  early : r.insideFrame = true → now ≤ r.lastByte + 960000

theorem Receiver.Settled.settleReceiver {s : State} (h : s.link.receiver.Settled s.time.ticks) :
    s.settleReceiver = s :=
  settleReceiver_none h.complete h.overLong fun hi => Nat.lt_succ_of_le (h.early hi)

/-- R172: between frames a receiver owes nothing. -/
theorem Receiver.settled_between {r : Receiver} (h : r.state = .hunt ∨ r.state = .sync2)
    (now : Nat) : r.Settled now := by
  rcases h with h | h <;>
    exact ⟨by simp [Receiver.complete, h], by simp [Receiver.overLong, h], by
      simp [Receiver.insideFrame, h]⟩

/-- R172: a byte that finds nothing owed moves the receiver alone. -/
theorem exec_receivedByte_goes {s : State} (hr : s.resetAsserted = false)
    (h : s.link.selection ≠ .spi) {e : Nat} {b : Byte} {r' : Receiver}
    (hsettled : s.link.receiver.Settled (s.time.ticks + e))
    (haccept : s.link.receiver.accept b (s.time.ticks + e) = r') (scsLow : Bool) :
    exec (.receivedByte e b scsLow) s =
      .next ((s.advanceTo (s.time.ticks + e)).modLink fun l => { l with receiver := r' }) := by
  have hnow := now_advanced s e
  have hsettle : (s.advanceTo (s.time.ticks + e)).settleReceiver =
      s.advanceTo (s.time.ticks + e) :=
    Receiver.Settled.settleReceiver (by rw [State.advanceTo_link, hnow]; exact hsettled)
  rw [exec_receivedByte_uart hr h, State.receiveByte, hsettle, State.modReceiver, State.modLink,
    State.modLink, State.advanceTo_link, State.now, hnow, haccept]

/-- R172: a byte after a finished frame is received as a byte of its own. -/
theorem exec_receivedByte_finished {s u : State} (hr : s.resetAsserted = false)
    (h : s.link.selection ≠ .spi) (e : Nat) (b : Byte) (scsLow : Bool)
    (hu : (s.advanceTo (s.time.ticks + e)).settleReceiver = u)
    (hur : u.resetAsserted = false) (hus : u.link.selection ≠ .spi)
    (hhunt : u.link.receiver.state = .hunt) :
    exec (.receivedByte e b scsLow) s = exec (.receivedByte 0 b scsLow) u := by
  have hsettled := Receiver.Settled.settleReceiver (s := u)
    (Receiver.settled_between (.inl hhunt) _)
  have hpast : u.advanceTo (u.time.ticks + 0) = u := advanceTo_past (by simp)
  rw [exec_receivedByte_uart hr h, exec_receivedByte_uart hur hus, hpast, State.receiveByte,
    State.receiveByte, hu, hsettled]

/-! ### The receiver's states (R172) -/

section
variable {r : Receiver} (b : Byte) (now : Nat)

theorem accept_hunt (h : r.state = .hunt) :
    r.accept b now = if b = 0xA5#8 then { r with state := .sync2, buffer := [] } else r := by
  simp only [Receiver.accept, h]

theorem accept_sync2 (h : r.state = .sync2) :
    r.accept b now =
      if b = 0x5A#8 then { state := .header, buffer := [], lastByte := now }
      else if b = 0xA5#8 then r
      else { r with state := .hunt, buffer := [] } := by
  simp only [Receiver.accept, h, Receiver.rest]

theorem accept_header (h : r.state = .header) :
    r.accept b now =
      { state :=
          if 4 ≤ r.buffer.length then
            (if field (r.buffer ++ [b]) 0 2 = 0 then .check else .body) else .header
        buffer := r.buffer ++ [b]
        lastByte := now } := by
  simp only [Receiver.accept, h, Receiver.add, Receiver.length, List.length_append,
    List.length_singleton]
  by_cases h4 : 4 ≤ r.buffer.length
  · rw [if_pos (by omega), if_pos h4]
  · rw [if_neg (by omega), if_neg h4]

theorem accept_body (h : r.state = .body) :
    r.accept b now =
      { state := if 5 + field (r.buffer ++ [b]) 0 2 ≤ r.buffer.length + 1 then .check else .body
        buffer := r.buffer ++ [b]
        lastByte := now } := by
  simp only [Receiver.accept, h, Receiver.add, Receiver.length, List.length_append,
    List.length_singleton]
  split <;> rfl

theorem accept_check (h : r.state = .check) :
    r.accept b now = { state := .check, buffer := r.buffer ++ [b], lastByte := now } := by
  simp only [Receiver.accept, h, Receiver.add]

end

/-! ### A finished frame (R172, R173) -/

/-- R172: what finishing a frame leaves: the receiver in HUNT, the selection and the time as they
were. -/
structure State.FrameDone (s u : State) : Prop where
  running : u.resetAsserted = s.resetAsserted
  hunt : u.link.receiver.state = .hunt
  selection : u.link.selection = s.link.selection
  time : u.time = s.time

theorem frameDone_countDiscard (s : State) (d : Discard) :
    s.FrameDone ((s.modReceiver Receiver.rest).countDiscard d) := by
  unfold State.countDiscard
  split <;> exact ⟨rfl, rfl, rfl, rfl⟩

theorem frameDone_finishFrame (s : State) : s.FrameDone s.finishFrame := by
  by_cases hi : s.link.restart = .idle
  · rcases hc : s.link.receiver.checks with _ | _
    · rw [finishFrame_crc hi hc]
      exact frameDone_countDiscard s .crc
    · rcases Nat.lt_or_ge s.link.inbox.length 4 with hroom | hfull
      · rw [finishFrame_sound hi hc hroom]
        exact ⟨rfl, rfl, rfl, rfl⟩
      · rw [finishFrame_overrun hi hc hfull]
        exact frameDone_countDiscard s .overrun
  · rw [finishFrame_waiting hi]
    exact ⟨rfl, rfl, rfl, rfl⟩

/-- R172: a byte that finds a frame to be finished: the frame's own command does it first. -/
theorem receivedByte_finishedBy {s u : State} (hr : s.resetAsserted = false)
    (h : s.link.selection ≠ .spi) {e : Nat} {i : Instr} (b : Byte) (scsLow : Bool)
    (hi : exec i (s.advanceTo (s.time.ticks + e)) = .next u)
    (hu : (s.advanceTo (s.time.ticks + e)).settleReceiver = u)
    (hdone : (s.advanceTo (s.time.ticks + e)).FrameDone u) :
    ∃ u, exec i (s.advanceTo (s.time.ticks + e)) = .next u ∧
      u.link.receiver.state = .hunt ∧ u.time.ticks = s.time.ticks + e ∧
      exec (.receivedByte e b scsLow) s = exec (.receivedByte 0 b scsLow) u :=
  ⟨u, hi, hdone.hunt, by rw [hdone.time, now_advanced],
    exec_receivedByte_finished hr h e b scsLow hu (by rw [hdone.running]; simpa using hr)
      (by rw [hdone.selection]; simpa using h) hdone.hunt⟩

/-! ### A byte in the SPI selection (R171, R177) -/

theorem advanceTo_modLink (s : State) (f : HostLink → HostLink) (tick : Nat) :
    (s.modLink f).advanceTo tick = (s.advanceTo tick).modLink f := by
  unfold State.advanceTo
  change (if tick ≤ s.now then _ else _) = _
  split <;> rfl

theorem endClocked_sending {s : State} {t : Transmit} (h : s.link.transmit = some t)
    (ht : t.clocked < t.frame.length) : s.endClocked = s := by
  simp only [State.endClocked, h]
  exact if_neg (Nat.not_le.2 ht)

theorem endClocked_sent {s : State} {t : Transmit} (h : s.link.transmit = some t)
    (ht : t.frame.length ≤ t.clocked) : s.endClocked = s.frameEnded := by
  simp only [State.endClocked, h]
  exact if_pos ht

theorem endClocked_idle {s : State} (h : s.link.transmit = none) : s.endClocked = s := by
  simp only [State.endClocked, h]

/-- R171: the byte shifted out of a frame on the path. -/
theorem modLink_shiftOut {s : State} {t : Transmit} (h : s.link.transmit = some t) :
    s.modLink HostLink.shiftOut =
      s.outbound s.link.selection (some { t with clocked := t.clocked + 1 }) s.link.responses
        (t.frame.getD t.clocked 0#8) := by
  simp only [State.modLink, State.outbound, HostLink.shiftOut, HostLink.outbound, h]

/-- R171: 00h is shifted out of an idle path. -/
theorem modLink_shiftOut_idle {s : State} (h : s.link.transmit = none) :
    s.modLink HostLink.shiftOut =
      s.outbound s.link.selection none s.link.responses 0x00#8 := by
  simp only [State.modLink, State.outbound, HostLink.shiftOut, HostLink.outbound, h]

/-- R177: with no response waiting a notice on offer is sent. -/
theorem arbiterDecide_notice {s : State} {n : Notice} (ht : s.link.transmit = none)
    (hd : s.link.restart ≠ .due) (hr : s.link.responses = []) (hn : s.offeredNotice = some n) :
    s.arbiterDecide = s.sendNotice n := by
  simp [State.arbiterDecide, HostLink.atBoundary, ht, hd, hr, hn]

/-- R177: with neither a response nor a notice nothing is sent. -/
theorem arbiterDecide_nothing {s : State} (hr : s.link.responses = [])
    (hn : s.offeredNotice = none) : s.arbiterDecide = s := by
  simp [State.arbiterDecide, hr, hn]

theorem offeredNotice_none {s : State} (h : s.notices.pending = [] ∨ s.notices.credit = 0) :
    s.offeredNotice = none := by
  rcases h with h | h <;> simp [State.offeredNotice, h, firstNotice]

theorem frameEnded_spi {s : State} (h : s.link.selection = .spi) :
    s.frameEnded.link.transmit = none ∧ s.frameEnded.link.selection = .spi ∧
      s.frameEnded.time = s.time ∧ s.frameEnded.resetAsserted = s.resetAsserted := by
  unfold State.frameEnded
  dsimp only
  split
  · exact ⟨rfl, h, rfl, rfl⟩
  · simp [h]

/-- R177: FRAME_SENT_WHOLE in the SPI selection. -/
theorem exec_frameSentWhole_spi {s : State} (hr : s.resetAsserted = false) {t : Transmit}
    (ht : s.link.transmit = some t) (h : s.link.selection = .spi) :
    exec .frameSentWhole s = .next s.endClocked := by
  rw [show exec .frameSentWhole s = execFrameSentWhole s from rfl, execFrameSentWhole,
    whileRunning_running hr]
  simp only [ht, h, LinkSelection.bitRate]

/-- R171, R177: in SPI a frame that has been clocked whole is over before the byte is looked at. -/
theorem receivedByte_frameOver {s : State} (hr : s.resetAsserted = false)
    (hspi : s.link.selection = .spi) {e : Nat} {t : Transmit}
    (h : s.link.transmit = some t) (ht : t.frame.length ≤ t.clocked) (b : Byte) :
    ∃ u, exec .frameSentWhole (s.advanceTo (s.time.ticks + e)) = .next u ∧
      exec (.receivedByte e b true) s = exec (.receivedByte 0 b true) u := by
  have hended := endClocked_sent (s := s.advanceTo (s.time.ticks + e)) (by simpa using h) ht
  obtain ⟨hidle, hselection, -, hrunning⟩ :=
    frameEnded_spi (s := s.advanceTo (s.time.ticks + e)) (by simpa using hspi)
  have hdone := exec_frameSentWhole_spi (s := s.advanceTo (s.time.ticks + e)) (by simpa using hr)
    (by simpa using h) (by simpa using hspi)
  rw [hended] at hdone
  refine ⟨_, hdone, ?_⟩
  generalize (s.advanceTo (s.time.ticks + e)).frameEnded = u at hended hidle hselection hrunning
  have hpast : u.advanceTo (u.time.ticks + 0) = u := advanceTo_past (by simp)
  rw [exec_receivedByte hr, exec_receivedByte (by simpa [hrunning] using hr), hpast, State.linkByte,
    State.linkByte, if_pos (by simpa using hspi), if_pos hselection, hended, endClocked_idle hidle,
    if_pos rfl, if_pos rfl]

/-- R171: a UART receives a byte as the SPI selection does, what is sent apart. -/
theorem receivedByte_clocks {s : State} (hr : s.resetAsserted = false)
    (hspi : s.link.selection = .spi) {e : Nat} {b : Byte} {transmit : Option Transmit}
    {responses : List Response} {sdo : Byte}
    (hsent : (s.advanceTo (s.time.ticks + e)).endClocked.arbiterDecide.modLink HostLink.shiftOut =
      (s.advanceTo (s.time.ticks + e)).outbound .spi transmit responses sdo) :
    ∃ u, exec (.receivedByte e b true)
        (s.modLink fun l => { l with selection := .uart115200 }) = .next u ∧
      exec (.receivedByte e b true) s =
        .next (u.modLink fun l =>
          { l with
            selection := .spi
            transmit := transmit
            responses := responses
            sdo := sdo }) := by
  refine ⟨_, exec_receivedByte_uart (s := s.modLink fun l => { l with selection := .uart115200 }) hr
    (by simp) e b true, ?_⟩
  have hbyte : (s.advanceTo (s.time.ticks + e)).linkByte b true =
      ((s.advanceTo (s.time.ticks + e)).outbound .spi transmit responses sdo).receiveByte b := by
    rw [← hsent]
    exact (if_pos (by simpa using hspi)).trans (if_pos rfl)
  have huart : (s.modLink fun l => { l with selection := .uart115200 }).advanceTo
      ((s.modLink fun l => { l with selection := .uart115200 }).time.ticks + e) =
      (s.advanceTo (s.time.ticks + e)).outbound .uart115200 s.link.transmit s.link.responses
        s.link.sdo := by
    change (s.modLink _).advanceTo (s.time.ticks + e) = _
    rw [advanceTo_modLink, State.outbound, State.modLink, State.modLink, State.advanceTo_link]
    rfl
  rw [exec_receivedByte hr, hbyte, huart, receiveByte_outbound, receiveByte_outbound]
  rfl

/-- Settles O46: the byte by receiver state, by what it finds owed, and by what SPI shifts out. -/
theorem receiverFollowsTheBytes : Obligations.ReceiverFollowsTheBytes := by
  intro s e b scsLow hr r now goes
  have hnow : (s.advanceTo now).now = now := now_advanced s e
  refine ⟨fun hspi hscs => ?_, fun hspi hscs => ?_, fun h => ⟨fun hc => ?_,
    fun ho => ?_, fun hstate hc ho hlate => ?_⟩, fun h hstate => ?_, fun h hstate => ?_,
    fun h hearly ho hc => ?_⟩
  · rw [exec_receivedByte hr, hscs]
    exact congrArg _ ((if_pos (by simpa using hspi)).trans (if_neg Bool.false_ne_true))
  · subst hscs
    have hselection : (s.advanceTo now).link.selection = .spi := by simpa using hspi
    refine ⟨fun t ht hlt => ?_, fun t ht hle => receivedByte_frameOver hr hspi ht hle b,
      fun q more ht hd hq => ?_, fun ht hnothing => ?_⟩
    · refine receivedByte_clocks hr hspi ?_
      have ht' : (s.advanceTo now).link.transmit = some t := by simpa using ht
      rw [endClocked_sending ht' hlt, arbiterDecide_sending (by simp [ht]), modLink_shiftOut ht',
        hselection, State.advanceTo_link]
    · refine receivedByte_clocks hr hspi ?_
      have ht' : (s.advanceTo now).link.transmit = none := by simpa using ht
      rw [endClocked_idle ht', arbiterDecide_response (rest := more) ht' (by simpa using hd)
        (by simpa using hq), modLink_shiftOut rfl]
      exact congrArg (fun x => (s.advanceTo now).outbound x _ _ _) hselection
    · refine receivedByte_clocks hr hspi ?_
      have ht' : (s.advanceTo now).link.transmit = none := by simpa using ht
      have hidle : (s.advanceTo now).arbiterDecide = s.advanceTo now := by
        rcases hnothing with hd | ⟨hq, hn⟩
        · exact arbiterDecide_due (by simpa using hd)
        · exact arbiterDecide_nothing (by simpa using hq) (offeredNotice_none (by simpa using hn))
      rw [endClocked_idle ht', hidle, modLink_shiftOut_idle ht', hselection, State.advanceTo_link]
  · refine receivedByte_finishedBy hr h b scsLow
      (exec_frameReceived (s := s.advanceTo now) (by simpa using hr) (by simpa using hc)) ?_
      (frameDone_finishFrame _)
    exact settleReceiver_complete (by simpa using hc)
  · refine receivedByte_finishedBy hr h b scsLow
      (exec_lengthDiscard (s := s.advanceTo now) (by simpa using hr) (by simpa using ho)) ?_
      (frameDone_countDiscard _ .length)
    exact settleReceiver_overLong (by simpa using ho)
  · have hinside : (s.advanceTo now).link.receiver.insideFrame = true :=
      (insideFrame_iff _).2 (by simpa using ⟨hstate, hc, ho⟩)
    have hdue : (s.advanceTo now).link.receiver.timeoutTick ≤ (s.advanceTo now).now := by
      rw [hnow, State.advanceTo_link]
      exact hlate
    have htimeout := exec_receiveTimeout (s := s.advanceTo now) (by simpa using hr) hinside
    rw [advanceTo_past hdue] at htimeout
    exact receivedByte_finishedBy hr h b scsLow htimeout (settleReceiver_timedOut hinside hdue)
      (frameDone_countDiscard _ .timeout)
  · exact exec_receivedByte_goes hr h (Receiver.settled_between (.inl hstate) _)
      (accept_hunt b now hstate) scsLow
  · exact exec_receivedByte_goes hr h (Receiver.settled_between (.inr hstate) _)
      (accept_sync2 b now hstate) scsLow
  · have hgoes {r' : Receiver} (h' : r.accept b now = r') : goes r' :=
      exec_receivedByte_goes hr h ⟨hc, ho, fun _ => hearly⟩ h' scsLow
    refine ⟨fun hstate hlen => hgoes ?_, fun hstate hlen => hgoes ?_, fun hstate hlen => hgoes ?_,
      fun hstate => hgoes (accept_check b now hstate)⟩
    · rw [accept_header b now hstate, if_neg (by omega)]
    · rw [accept_header b now hstate, if_pos (by omega), field_append_left (by omega)]
    · rw [accept_body b now hstate, field_append_left (by omega)]

end Sys2Proof.Machine
end

section
/-! What the device sends: notices (R146, R149, R151, R177) and responses (R175, R177, R178). -/

namespace Sys2Proof.Machine

/-! ### A notice sent (R149, R151) -/

theorem exec_noticeSend (s : State) : exec .noticeSend s = execNoticeSend s := rfl

theorem atBoundary_iff (l : HostLink) :
    l.atBoundary = true ↔ l.transmit = none ∧ l.restart ≠ .due := by
  simp [HostLink.atBoundary]

theorem exec_noticeSend_offered {s : State} {n : Notice} (hr : s.resetAsserted = false)
    (ht : s.link.transmit = none) (hd : s.link.restart ≠ .due) (hq : s.link.responses = [])
    (h : s.link.selection ≠ .spi) (hn : s.offeredNotice = some n) :
    exec .noticeSend s = .next (s.sendNotice n) := by
  have hnow : (s.link.startsAtOnce && s.link.responses.isEmpty) = true := by
    rw [startsAtOnce_uart h, (atBoundary_iff _).2 ⟨ht, hd⟩, hq]
    rfl
  rw [exec_noticeSend, execNoticeSend, whileRunning_running hr]
  simp only [hnow, hn, if_true]

/-- R177: while nothing may start at once, or a response waits, no notice is sent. -/
theorem exec_noticeSend_waits {s : State} (hr : s.resetAsserted = false)
    (h : s.link.startsAtOnce = false ∨ s.link.responses ≠ []) : exec .noticeSend s = .next s := by
  rw [exec_noticeSend, execNoticeSend, whileRunning_running hr]
  exact congrArg _ (if_neg (by rcases h with h | h <;> simp [h]))

/-- R149, R151: the notices and the path once notice `n` has been started, `clocked` bytes of it
shifted out. -/
def State.noticeStarted (s : State) (n : Notice) (clocked : Nat) (sdo : Byte) : State :=
  { s with
    notices :=
      { pending := s.notices.pending.filter fun m => decide (m.slot ≠ n.slot)
        credit := s.notices.credit - 1
        nextSeq := s.notices.nextSeq + 1 }
    link :=
      { s.link with
        sdo := sdo
        transmit :=
          some
            { frame := frameBytes 0xC0#8 0x00#8 n.slot.channelCode (s.noticeBody n)
              clocked := clocked
              started := s.time.ticks } } }

theorem noticeBody_advanceTo (s : State) (tick : Nat) (n : Notice) :
    (s.advanceTo tick).noticeBody n = s.noticeBody n := by
  unfold State.advanceTo
  split <;> rfl

theorem sendNotice_eq (s : State) (n : Notice) :
    s.sendNotice n = s.noticeStarted n 0 s.link.sdo := rfl

theorem sendNotice_shiftOut (s : State) (n : Notice) :
    (s.sendNotice n).modLink HostLink.shiftOut = s.noticeStarted n 1 0xA5#8 := rfl

/-- R171: what is sent is left alone by a byte received. -/
theorem receiveByte_keeps_outbound (s : State) (b : Byte) :
    s.receiveByte b =
      (s.receiveByte b).outbound s.link.selection s.link.transmit s.link.responses s.link.sdo :=
  receiveByte_outbound s s.link.selection s.link.transmit s.link.responses s.link.sdo b

/-- R171: a byte received in SPI, beside a UART that receives it. -/
theorem receivedByte_beside {v : State} (hr : v.resetAsserted = false)
    (hspi : v.link.selection = .spi) (b : Byte) :
    ∃ u, exec (.receivedByte 0 b true)
        (v.modLink fun l => { l with selection := .uart115200 }) = .next u ∧
      v.receiveByte b = u.modLink fun l => { l with selection := .spi } := by
  have huart : v.modLink (fun l => { l with selection := .uart115200 }) =
      v.outbound .uart115200 v.link.transmit v.link.responses v.link.sdo := rfl
  refine ⟨_, exec_receivedByte_uart (by exact hr) (by simp) 0 b true, ?_⟩
  rw [advanceTo_past (by exact le_rfl), huart, receiveByte_outbound, receiveByte_keeps_outbound, hspi]
  rfl

/-- Settles O41: the first notice by the order of R146, its frame on either link, and the kind values
of each kind. -/
theorem firstNoticeIsSent : Obligations.FirstNoticeIsSent := by
  refine ⟨?_, fun s n => ⟨fun c kind h => ?_, fun kind h => ?_⟩, fun c => rfl⟩
  · intro s n hr ht hd hq hcredit hn hfirst started
    have hoffered := offeredNotice_eq hcredit hn hfirst
    have hstarted (tick clocked : Nat) (sdo : Byte) :
        (s.advanceTo tick).noticeStarted n clocked sdo = started (s.advanceTo tick) clocked sdo := by
      rw [State.noticeStarted, noticeBody_advanceTo, noticeBody_eq, State.advanceTo_notices,
        State.advanceTo_link]
    refine ⟨fun h => ?_, fun hspi => ⟨exec_noticeSend_waits hr (.inl (startsAtOnce_spi hspi)),
      fun e b => ?_⟩⟩
    · rw [exec_noticeSend_offered hr ht hd hq h hoffered, sendNotice_eq, State.noticeStarted,
        noticeBody_eq]
    · have hbyte : (s.advanceTo (s.time.ticks + e)).linkByte b true =
          (started (s.advanceTo (s.time.ticks + e)) 1 0xA5#8).receiveByte b := by
        rw [← hstarted, ← sendNotice_shiftOut, State.linkByte, if_pos (by simpa using hspi),
          if_pos rfl, endClocked_idle (by simpa using ht),
          arbiterDecide_notice (by simpa using ht) (by simpa using hd) (by simpa using hq)
            (by rw [← hoffered, State.offeredNotice, State.advanceTo_notices]; rfl)]
      obtain ⟨u, hu, hbeside⟩ := receivedByte_beside
        (v := started (s.advanceTo (s.time.ticks + e)) 1 0xA5#8) (by simpa [started] using hr) hspi b
      exact ⟨u, hu, by rw [exec_receivedByte hr, hbyte, hbeside]⟩
  · exact ⟨by rw [h]; rfl, by rw [h]; rfl, chan_kindValues h⟩
  · exact ⟨by rw [h]; rfl, by rw [h]; rfl, device_kindValues s n⟩

/-! ### Responses sent in order (R175, R177, R178) -/

/-- R175, R177: the path once the response `q` has been started, `more` behind it. -/
def State.responseStarted (s : State) (q : Response) (more : List Response) : State :=
  s.modLink fun l =>
    { l with
      responses := more
      transmit :=
        some
          { frame := frameBytes q.kind q.tag q.channel q.body
            clocked := 0
            started := s.time.ticks } }

theorem arbiterDecide_starts {s : State} {q : Response} {more : List Response}
    (ht : s.link.transmit = none) (hd : s.link.restart ≠ .due) (hq : s.link.responses = q :: more) :
    s.arbiterDecide = s.responseStarted q more := arbiterDecide_response ht hd hq

theorem exec_responseSend (s : State) : exec .responseSend s = execResponseSend s := rfl

theorem exec_responseSend_starts {s : State} {q : Response} {more : List Response}
    (hr : s.resetAsserted = false) (ht : s.link.transmit = none) (hd : s.link.restart ≠ .due)
    (h : s.link.selection ≠ .spi) (hq : s.link.responses = q :: more) :
    exec .responseSend s = .next (s.responseStarted q more) := by
  have hnow : s.link.startsAtOnce = true := by
    rw [startsAtOnce_uart h, (atBoundary_iff _).2 ⟨ht, hd⟩]
  rw [exec_responseSend, execResponseSend, whileRunning_running hr]
  simp only [hnow, if_true, State.sendResponse, hq]
  rfl

/-- R177: while nothing may start at once no response is sent. -/
theorem exec_responseSend_waits {s : State} (hr : s.resetAsserted = false)
    (h : s.link.startsAtOnce = false) : exec .responseSend s = .next s := by
  rw [exec_responseSend, execResponseSend, whileRunning_running hr]
  exact congrArg _ (if_neg (by simp [h]))

theorem startsAtOnce_sending {l : HostLink} (h : l.transmit ≠ none) : l.startsAtOnce = false := by
  simp [HostLink.startsAtOnce, HostLink.atBoundary, h]

/-- R146: with credit some pending notice is on offer. -/
theorem offeredNotice_some {s : State} (h : s.notices.pending ≠ []) (hcredit : 1 ≤ s.notices.credit) :
    ∃ n, s.offeredNotice = some n := by
  rw [State.offeredNotice, if_pos hcredit]
  rcases hp : s.notices.pending with _ | ⟨n, rest⟩
  · exact absurd hp h
  · rw [firstNotice]
    split
    · exact ⟨n, rfl⟩
    · split
      · exact ⟨_, rfl⟩
      · exact ⟨n, rfl⟩

/-! ### A frame sent whole (R177, R178) -/

/-- The device with nothing on the path. -/
def State.pathCleared (s : State) : State := s.modLink fun l => { l with transmit := none }

/-- R178: after the RESTART response the soft restart is due. -/
theorem frameEnded_restart {s : State} (h : s.link.restart = .awaiting)
    (hq : s.link.responses = []) :
    s.frameEnded = s.modLink fun l => { l with transmit := none, restart := .due } :=
  if_pos ⟨h, by simp [hq]⟩

theorem not_restarting {l : HostLink} (h : l.restart ≠ .awaiting ∨ l.responses ≠ []) :
    ¬(l.restart = .awaiting ∧ l.responses.isEmpty = true) := by
  rw [List.isEmpty_iff]
  tauto

/-- R177: after any other frame SPI waits for the next byte. -/
theorem frameEnded_spi_waits {s : State} (h : s.link.restart ≠ .awaiting ∨ s.link.responses ≠ [])
    (hspi : s.link.selection = .spi) : s.frameEnded = s.pathCleared :=
  (if_neg (not_restarting h)).trans (if_pos hspi)

/-- R177: after any other frame a UART decides anew. -/
theorem frameEnded_uart {s : State} (h : s.link.restart ≠ .awaiting ∨ s.link.responses ≠ [])
    (huart : s.link.selection ≠ .spi) : s.frameEnded = s.pathCleared.arbiterDecide :=
  (if_neg (not_restarting h)).trans (if_neg huart)

theorem exec_frameSentWhole_uart {s : State} (hr : s.resetAsserted = false) {t : Transmit}
    {rate : Nat} (ht : s.link.transmit = some t) (h : s.link.selection.bitRate = some rate) :
    exec .frameSentWhole s = .next (s.advanceTo (t.sentTick rate)).frameEnded := by
  rw [show exec .frameSentWhole s = execFrameSentWhole s from rfl, execFrameSentWhole,
    whileRunning_running hr]
  simp only [ht, h]

theorem uart_of_bitRate {l : LinkSelection} {rate : Nat} (h : l.bitRate = some rate) :
    l ≠ .spi := by
  rintro rfl
  simp [LinkSelection.bitRate] at h

/-- R177, R178: what a UART does at the end of a frame, by what waits. -/
theorem frameEnded_decides {u : State} (hr : u.resetAsserted = false)
    (huart : u.link.selection ≠ .spi) {o : Host.Outcome State Fault Refusal}
    (ho : o = .next u.frameEnded) :
    (u.link.restart = .awaiting → u.link.responses = [] →
      o = .next (u.modLink fun l => { l with transmit := none, restart := .due })) ∧
    (∀ q more, u.link.responses = q :: more → u.link.restart ≠ .due →
      o = .next (u.responseStarted q more)) ∧
    (u.link.restart = .idle → u.link.responses = [] →
      (u.notices.pending = [] ∨ u.notices.credit = 0) → o = .next u.pathCleared) ∧
    (u.link.restart = .idle → u.link.responses = [] →
      u.notices.pending ≠ [] → 1 ≤ u.notices.credit →
      ∃ v, exec .noticeSend u.pathCleared = .next v ∧ v.link.transmit ≠ none ∧ o = .next v) := by
  subst ho
  refine ⟨fun hw hq => ?_, fun q more hq hd => ?_, fun hi hq hn => ?_, fun hi hq hn hcredit => ?_⟩
  · rw [frameEnded_restart hw hq]
  · rw [frameEnded_uart (.inr (by simp [hq])) huart,
      arbiterDecide_starts (s := u.pathCleared) rfl hd hq]
    rfl
  · rw [frameEnded_uart (.inl (by simp [hi])) huart,
      arbiterDecide_nothing (s := u.pathCleared) hq (offeredNotice_none hn)]
  · obtain ⟨n, hn⟩ := offeredNotice_some (s := u.pathCleared) hn hcredit
    have hd : u.pathCleared.link.restart ≠ .due := by
      change u.link.restart ≠ .due
      rw [hi]
      decide
    refine ⟨_, exec_noticeSend_offered (s := u.pathCleared) hr rfl hd hq huart hn,
      Option.some_ne_none _, ?_⟩
    rw [frameEnded_uart (.inl (by simp [hi])) huart,
      arbiterDecide_notice (s := u.pathCleared) rfl hd hq hn]

/-- Settles O48: what each command of the outbound path does by what waits and what is being sent. -/
theorem responsesAreSentInOrder : Obligations.ResponsesAreSentInOrder := by
  intro s hr started
  refine ⟨fun q more hq => ⟨fun ht hd h => exec_responseSend_starts hr ht hd h hq,
      exec_noticeSend_waits hr (.inr (by simp [hq]))⟩,
    fun hspi => ⟨exec_responseSend_waits hr (startsAtOnce_spi hspi),
      exec_noticeSend_waits hr (.inl (startsAtOnce_spi hspi))⟩,
    fun ht => ⟨exec_responseSend_waits hr (startsAtOnce_sending ht),
      exec_noticeSend_waits hr (.inl (startsAtOnce_sending ht))⟩, ?_, ?_⟩
  · intro t rate ht hrate
    have hdecides := frameEnded_decides (u := s.advanceTo (t.sentTick rate)) (by simpa using hr)
      (by rw [State.advanceTo_link]; exact uart_of_bitRate hrate)
      (exec_frameSentWhole_uart hr ht hrate)
    rw [State.advanceTo_link, State.advanceTo_notices] at hdecides
    exact hdecides
  · intro t ht hspi
    rw [exec_frameSentWhole_spi hr ht hspi]
    refine ⟨fun hle h => ?_, fun hle hw hq => ?_, fun hlt => congrArg _ (endClocked_sending ht hlt)⟩
    · rw [endClocked_sent ht hle]
      exact congrArg _ (frameEnded_spi_waits h hspi)
    · rw [endClocked_sent ht hle]
      exact congrArg _ (frameEnded_restart hw hq)

end Sys2Proof.Machine
end

section
/-! A frame sent byte by byte (R172, R173, R179). -/

namespace Sys2Proof.Machine

/-! ### Commands in a row -/

theorem runAll_cons {i : Instr} {s t : State} (h : exec i s = .next t) (rest : List Instr) :
    runAll (i :: rest) s = runAll rest t := by
  rw [runAll, h]

/-! ### The receiver inside a frame (R172) -/

/-- R172: the receiver inside a frame with a body of `n` bytes, the bytes `got` being in, the last of
them at tick `now`. -/
def Receiver.within (n : Nat) (got : List Byte) (now : Nat) : Receiver :=
  { state :=
      if got.length < 5 then .header else if got.length < 5 + n then .body else .check
    buffer := got
    lastByte := now }

section
variable {w got rest : List Byte} {n : Nat} (hw : w = got ++ rest) (hn : field w 0 2 = n)
  (hlong : n ≤ 1088) (hlen : w.length = 7 + n)
include hw hn

theorem length_within (h : 2 ≤ got.length) (now : Nat) :
    (Receiver.within n got now).length = n := by
  rw [← hn, hw, field_append_left (by omega)]
  rfl

include hlong hlen

theorem settled_within (hrest : rest ≠ []) {last now : Nat} (hnow : now ≤ last + 960000) :
    (Receiver.within n got last).Settled now := by
  have hgot : got.length < 7 + n := by
    have := List.length_pos_iff.2 hrest
    rw [hw, List.length_append] at hlen
    omega
  refine ⟨?_, ?_, fun _ => hnow⟩
  · by_cases h : 2 ≤ got.length
    · rw [Receiver.complete, length_within hw hn h, Bool.and_eq_false_iff]
      exact .inr (decide_eq_false (Nat.not_le.2 hgot))
    · simp [Receiver.complete, Receiver.within, show got.length < 5 by omega]
  · by_cases h : 2 ≤ got.length
    · rw [Receiver.overLong, length_within hw hn h]
      simp [hlong]
    · rw [Receiver.overLong]
      simp [Receiver.within, show got.length ≠ 2 by omega]

omit hlong hlen in
/-- R172: the next byte of the frame. -/
theorem accept_within {b : Byte} {more : List Byte} (hrest : rest = b :: more) (last now : Nat) :
    (Receiver.within n got last).accept b now = Receiver.within n (got ++ [b]) now := by
  have hfield (h : 1 ≤ got.length) : field (got ++ [b]) 0 2 = n := by
    have hsplit : got ++ b :: more = got ++ [b] ++ more := List.append_cons ..
    rw [← hn, hw, hrest, hsplit,
      ← field_append_left (a := got ++ [b]) (b := more) (by simp; omega)]
  have hbuffer : (Receiver.within n got last).buffer = got := rfl
  have hstate : (Receiver.within n got last).state =
      if got.length < 5 then .header else if got.length < 5 + n then .body else .check := rfl
  unfold Receiver.within
  rw [List.length_append, List.length_singleton]
  by_cases h5 : got.length < 5
  · rw [if_pos h5] at hstate
    have hnext := accept_header b now hstate
    rw [hbuffer] at hnext
    refine hnext.trans ?_
    by_cases h4 : 4 ≤ got.length
    · rw [if_pos h4, hfield (by omega), if_neg (show ¬got.length + 1 < 5 by omega)]
      by_cases h0 : n = 0
      · rw [if_pos h0, if_neg (by omega)]
      · rw [if_neg h0, if_pos (by omega)]
    · rw [if_neg h4, if_pos (by omega)]
  · rw [if_neg h5] at hstate
    by_cases hbody : got.length < 5 + n
    · rw [if_pos hbody] at hstate
      have hnext := accept_body b now hstate
      rw [hbuffer, hfield (by omega)] at hnext
      refine hnext.trans ?_
      rw [if_neg (show ¬got.length + 1 < 5 by omega)]
      by_cases hend : 5 + n ≤ got.length + 1
      · rw [if_pos hend, if_neg (by omega)]
      · rw [if_neg hend, if_pos (by omega)]
    · rw [if_neg hbody] at hstate
      have hnext := accept_check b now hstate
      rw [hbuffer] at hnext
      refine hnext.trans ?_
      rw [if_neg (by omega), if_neg (by omega)]

end

/-! ### A frame byte by byte (R172, R173) -/

/-- The device after bytes have moved the receiver, and nothing else. -/
def State.Received (s t : State) : Prop :=
  t = { s with time := t.time, link := { s.link with receiver := t.link.receiver } }

theorem State.Received.trans {s t u : State} (h : s.Received t) (h' : t.Received u) :
    s.Received u := by
  unfold State.Received at *
  rw [h', h]

theorem State.Received.kept {s t : State} (h : s.Received t) :
    t.resetAsserted = s.resetAsserted ∧ t.link.selection = s.link.selection := by
  unfold State.Received at h
  rw [h]
  exact ⟨rfl, rfl⟩

/-- R172: one byte that finds nothing owed. -/
theorem received_byte {s : State} (hr : s.resetAsserted = false) (h : s.link.selection ≠ .spi)
    {gap : Nat} {b : Byte} {r' : Receiver}
    (hsettled : s.link.receiver.Settled (s.time.ticks + gap))
    (haccept : s.link.receiver.accept b (s.time.ticks + gap) = r') :
    ∃ t, exec (.receivedByte gap b false) s = .next t ∧ s.Received t ∧ t.link.receiver = r' ∧
      t.time.ticks = s.time.ticks + gap := by
  refine ⟨_, exec_receivedByte_goes hr h hsettled haccept false, ?_, rfl, now_advanced s gap⟩
  unfold State.Received State.advanceTo
  split <;> rfl

/-- R172, R173: the rest of a frame, no more than 20 ms between its bytes. -/
theorem runAll_within {w : List Byte} {n gap : Nat} (hn : field w 0 2 = n) (hlong : n ≤ 1088)
    (hlen : w.length = 7 + n) (hgap : gap ≤ 960000) (rest got : List Byte) (hw : w = got ++ rest)
    {s : State} (hr : s.resetAsserted = false) (h : s.link.selection ≠ .spi)
    (hreceiver : s.link.receiver = Receiver.within n got s.time.ticks) :
    ∃ t, (∀ tail, runAll (rest.map (fun b => Instr.receivedByte gap b false) ++ tail) s =
        runAll tail t) ∧ s.Received t ∧ t.link.receiver = Receiver.within n w t.time.ticks := by
  induction rest generalizing got s with
  | nil =>
    rw [List.append_nil] at hw
    exact ⟨s, fun _ => rfl, rfl, hw ▸ hreceiver⟩
  | cons b rest ih =>
    have hsettled : s.link.receiver.Settled (s.time.ticks + gap) :=
      hreceiver ▸ settled_within hw hn hlong hlen (by simp) (by omega)
    have haccept : s.link.receiver.accept b (s.time.ticks + gap) =
        Receiver.within n (got ++ [b]) (s.time.ticks + gap) :=
      hreceiver ▸ accept_within hw hn rfl _ _
    obtain ⟨t, hexec, hreceived, hnext, htime⟩ := received_byte hr h hsettled haccept
    obtain ⟨hruns, hselection⟩ := hreceived.kept
    obtain ⟨u, hu, hrest, hdone⟩ := ih (got ++ [b]) (by simp [hw]) (hruns.trans hr)
      (by rwa [hselection]) (by rw [hnext, htime])
    exact ⟨u, fun tail => (runAll_cons hexec _).trans (hu tail), hreceived.trans hrest, hdone⟩

theorem append_checkBytes (v : BitVec 16) :
    v.extractLsb' 8 8 ++ v.extractLsb' 0 8 = v := by
  ext i hi
  rw [BitVec.getElem_append]
  split
  · simp [BitVec.getLsbD_eq_getElem hi]
  · rename_i h8
    simp [Nat.add_sub_cancel' (Nat.le_of_not_lt h8), BitVec.getLsbD_eq_getElem hi]

/-- Settles O15: the two sync bytes, the bytes of the frame, and the check. -/
theorem sentFrameEntersInbox : Obligations.SentFrameEntersInbox := by
  intro s kind tag channel body gap hr h hidle hhunt hroom hlong hgap
  have hsync := received_byte (b := 0xA5#8) (gap := gap) hr h
    (Receiver.settled_between (.inl hhunt) _) (accept_hunt _ _ hhunt)
  obtain ⟨t1, hexec1, hreceived1, hreceiver1, htime1⟩ := hsync
  obtain ⟨hruns1, hselection1⟩ := hreceived1.kept
  have hstate1 : t1.link.receiver.state = .sync2 := by
    rw [hreceiver1]
    rfl
  have hstart := received_byte (s := t1) (b := 0x5A#8) (gap := gap) (hruns1.trans hr)
    (by rwa [hselection1]) (Receiver.settled_between (.inr hstate1) _) (accept_sync2 _ _ hstate1)
  obtain ⟨t2, hexec2, hreceived2, hreceiver2, htime2⟩ := hstart
  obtain ⟨hruns2, hselection2⟩ := hreceived2.kept
  set covered := coveredBytes kind tag channel body with hcovered
  set w := covered ++ checkBytes (crc16 covered) with hw
  have hlen : w.length = 7 + body.length := by
    rw [hw, List.length_append, hcovered, length_coveredBytes]
    simp [checkBytes]
    omega
  have hn : field w 0 2 = body.length := by
    rw [hw, field_append_left (by rw [hcovered, length_coveredBytes]; omega),
      field_coveredBytes hlong]
  obtain ⟨t3, hexec3, hreceived3, hreceiver3⟩ := runAll_within hn hlong hlen hgap w [] rfl
    ((hruns2.trans hruns1).trans hr) (by rwa [hselection2, hselection1]) (by
      rw [hreceiver2, htime2]
      rfl)
  have hall := (hreceived1.trans hreceived2).trans hreceived3
  obtain ⟨hruns, -⟩ := hall.kept
  have hbuffer : t3.link.receiver.buffer = covered ++
      [(crc16 covered).extractLsb' 8 8, (crc16 covered).extractLsb' 0 8] := by
    rw [hreceiver3]
    rfl
  have hcheck : t3.link.receiver.state = .check := by
    rw [hreceiver3, Receiver.within]
    dsimp only
    rw [hlen, if_neg (by omega), if_neg (by omega)]
  have hcomplete := complete_of_buffer hbuffer hlong hcheck
  have hsound : t3.link.receiver.checks = true := by
    rw [checks_of_buffer hbuffer hlong, append_checkBytes]
    exact decide_eq_true rfl
  have hframe : (frameBytes kind tag channel body).map (fun b => Instr.receivedByte gap b false) =
      .receivedByte gap 0xA5#8 false :: .receivedByte gap 0x5A#8 false ::
        w.map (fun b => Instr.receivedByte gap b false) := rfl
  refine ⟨t3.finishFrame, ?_, ?_⟩
  · rw [hframe, List.cons_append, List.cons_append, runAll_cons hexec1, runAll_cons hexec2, hexec3,
      runAll_cons (exec_frameReceived (hruns.trans hr) hcomplete)]
    rfl
  · have hentry := frame_of_buffer hbuffer hlong
    rw [append_checkBytes] at hentry
    have hkept : t3.link.restart = .idle ∧ t3.link.inbox = s.link.inbox := by
      rw [hall]
      exact ⟨hidle, rfl⟩
    rw [finishFrame_sound hkept.1 hsound (by rw [hkept.2]; exact hroom), hentry, hall]
    exact ⟨rfl, rfl, rfl, rfl, rfl, rfl, rfl, rfl, rfl, rfl, rfl⟩

end Sys2Proof.Machine
end

section
/-! Time, lines and gathering (R25 to R27, R70, R72 to R76). -/

namespace Sys2Proof.Machine

/-! ### The counter's wrap (R70) -/

theorem exec_timeWrap {s : State} (hr : s.resetAsserted = false) :
    exec .timeWrap s = .next (s.advanceTo s.time.wrapTick) :=
  whileRunning_running hr fun s => s.advanceTo s.time.wrapTick

theorem wrapTick_eq (t : TimeBase) :
    t.wrapTick = (t.ticks / 48 + (4294967296 - t.counter.toNat)) * 48 := rfl

theorem advanceTo_future {s : State} {tick : Nat} (h : s.time.ticks < tick) :
    s.advanceTo tick = { s with time := s.time.movedTo tick } := if_neg (Nat.not_le.2 h)

/-- R70: the Time Base at the wrap. -/
theorem movedTo_wrapTick (t : TimeBase) :
    t.movedTo t.wrapTick = { counter := 0, wraps := t.wraps + 1, ticks := t.wrapTick } := by
  have hcounter := t.counter.isLt
  have htotal : t.counter.toNat + (t.wrapTick / 48 - t.ticks / 48) = 4294967296 := by
    rw [wrapTick_eq, Nat.mul_div_cancel _ (by decide)]
    omega
  unfold TimeBase.movedTo ticksPerMicrosecond
  rw [htotal]
  rfl

/-- Settles O49: the wrap lies ahead, and the Time Base moves to it. -/
theorem counterWrapRaisesTheWrapCount : Obligations.CounterWrapRaisesTheWrapCount := by
  intro s hr
  have hcounter := s.time.counter.isLt
  have hahead : s.time.ticks < s.time.wrapTick := by
    rw [wrapTick_eq]
    omega
  refine ⟨_, exec_timeWrap hr, ?_, ?_, ?_, ?_, ?_, fun h => TimeLaw.advanceTo h _⟩
  · rw [advanceTo_future hahead]
  all_goals rw [advanceTo_future hahead, movedTo_wrapTick]
  · exact hahead
  · rw [wrapTick_eq]
    exact Nat.mul_mod_left _ _

/-! ### The glitch filter (R72) -/

theorem exec_lineInputChange (c : Channel) (e : Nat) (s : State) :
    exec (.lineInputChange c e) s = execLineInputChange c e s := rfl

theorem deliverEdge_kept (s : State) (c : Channel) (tick : Nat) :
    (s.deliverEdge c tick).time = s.time ∧ (s.deliverEdge c tick).lineIn = s.lineIn := by
  rw [deliverEdge_eq]
  cases (s.chan c).ctl.lock
  case gather =>
    dsimp only
    unfold State.gatherNext
    dsimp only
    split <;> exact ⟨rfl, rfl⟩
  all_goals exact ⟨rfl, rfl⟩

theorem toggleLine_eq (s : State) (c : Channel) :
    s.toggleLine c =
      { s with lineIn := s.lineIn.set c.val (if s.lineIn[c.val] = .low then .high else .low) } := by
  unfold State.toggleLine
  cases s.lineIn[c.val] <;> rfl

theorem toggleLine_filterSees (t : State) (c : Channel) :
    (t.toggleLine c).filterSees c (t.toggleLine c).lineIn[c.val] =
      { t.modSampler c (fun p =>
          { p with pendingChange :=
            if (if t.lineIn[c.val] = .low then Level.high else .low) = p.accepted then none
            else some t.time.ticks }) with
        lineIn :=
          t.lineIn.set c.val (if t.lineIn[c.val] = .low then .high else .low) } := by
  rw [toggleLine_eq]
  dsimp only
  rw [Vector.getElem_set_self]
  rfl

/-- Settles O50: the change by what was pending. -/
theorem glitchFilterFollowsTheInput : Obligations.GlitchFilterFollowsTheInput := by
  intro s c e level now seen
  have hseen {t : State} (hline : t.lineIn = s.lineIn) (htime : t.time.ticks = now) :
      (t.toggleLine c).filterSees c (t.toggleLine c).lineIn[c.val] = seen t := by
    rw [toggleLine_filterSees, hline, htime]
  have hpassed (hr : s.resetAsserted = false) {t : State} (ht : s.passTo c now = t)
      (hline : t.lineIn = s.lineIn) (htime : t.time.ticks = now) :
      exec (.lineInputChange c e) s = .next (seen t) := by
    rw [exec_lineInputChange, execLineInputChange, if_pos (by simp [State.running, hr]), ← hseen hline htime,
      ← ht]
  refine ⟨fun hr => ?_, fun hr hnone => ?_, fun d hr hd => ⟨fun hwaits => ?_, fun hdone => ?_⟩⟩
  · rw [exec_lineInputChange, execLineInputChange, if_neg (by simp [State.running, hr]),
      toggleLine_eq]
  · exact hpassed hr (by simp only [State.passTo, hnone]) (by simp) (now_advanced s e)
  · refine hpassed hr ?_ (by simp) (now_advanced s e)
    simp only [State.passTo, hd]
    exact if_neg (Nat.not_le.2 hwaits)
  · have hedge : exec (.filteredEdge c) s =
        .next ((s.advanceTo (d + (s.chan c).config.glitchLimit)).deliverEdge c d) := by
      rw [exec_filteredEdge, execFilteredEdge, whileRunning_running hr]
      simp only [hd]
    obtain ⟨htime, hline⟩ := deliverEdge_kept (s.advanceTo (d + (s.chan c).config.glitchLimit)) c d
    refine ⟨_, hedge, hpassed hr ?_ (by rw [State.advanceTo_lineIn, hline, State.advanceTo_lineIn]) ?_⟩
    · simp only [State.passTo, hd]
      exact if_pos hdone
    · rw [advanceTo_ticks, htime, advanceTo_ticks]
      omega

end Sys2Proof.Machine
end

section
/-! Filtered edges by lock state (R25 to R27, R44, R74, R75, R78). -/

namespace Sys2Proof.Machine

/-! ### Gathering (R25 to R27) -/

theorem exec_filteredEdge_pending {s : State} {c : Channel} {d : Nat}
    (hr : s.resetAsserted = false) (hd : (s.chan c).sampler.pendingChange = some d) :
    exec (.filteredEdge c) s =
      .next ((s.advanceTo (d + (s.chan c).config.glitchLimit)).deliverEdge c d) := by
  rw [exec_filteredEdge, execFilteredEdge, whileRunning_running hr]
  simp only [hd]

/-- R48: the trial unit with channel `c` at the queue's tail. -/
def State.queuedLast (s : State) (c : Channel) : State :=
  { s with trial := { s.trial with queue := s.trial.queue ++ [c] } }

theorem joinQueue_modChan (s : State) (c : Channel) (f : Chan → Chan) :
    (s.modChan c f).joinQueue c =
      (s.modChan c fun k =>
        { f k with
          ctl := { (f k).ctl with lock := .queued, gatherTimer := none } }).queuedLast c := by
  unfold State.joinQueue State.modCtl State.queuedLast
  rw [State.modChan_modChan]

/-- R26, R75: a channel with a further capture entry. -/
def Chan.gathered (k : Chan) (e : Edge) (timer : Option Nat) : Chan :=
  { k with sampler := k.sampler.captureNext e, ctl := { k.ctl with gatherTimer := timer } }

theorem gatherNext_eq (s : State) (c : Channel) (e : Edge) :
    s.gatherNext c e =
      if (s.chan c).ctl.gatherTarget ≤ (s.chan c).sampler.ring.length + 1 then
        (s.modChan c fun k =>
          { k with
            sampler := k.sampler.captureNext e
            ctl := { k.ctl with lock := .queued, gatherTimer := none } }).queuedLast c
      else
        s.modChan c fun k => k.gathered e (some (s.expiryInMs k.ctl.gatherQuietMs)) := by
  unfold State.gatherNext
  dsimp only
  rw [joinQueue_modChan]
  simp only [State.chan_modChan_same, Sampler.captureNext, List.length_append,
    List.length_singleton]
  rfl

/-! ### Edges of a decoding channel (R44, R78) -/

/-- R78: a hunt looks at one edge. -/
theorem settle_hunt {p : Sampler} {pol : Polarity} {since : Nat} {e : Edge}
    (hd : p.decode = .hunt since) (he : p.edges = [e]) :
    p.settle pol =
      if e.level = pol.space ∧ since < e.tick then
        { p with decode := .sampling e.tick p.trackedPeriod, edges := [] }
      else { p with decode := .hunt since, edges := [] } := by
  simp only [Sampler.settle, hd, Sampler.huntFrom, he]
  by_cases h : e.level = pol.space ∧ since < e.tick
  · simp [h.1, h.2]
  · rw [if_neg h, List.dropWhile_cons_of_pos (by
      simp only [Bool.not_eq_true', Bool.and_eq_false_iff, decide_eq_false_iff_not]
      tauto)]
    rfl

/-- R78: WAIT_MARK looks at one edge. -/
theorem settle_waitMark {p : Sampler} {pol : Polarity} {since : Nat} {e : Edge}
    (hd : p.decode = .waitMark since) (he : p.edges = [e]) :
    p.settle pol =
      if e.level = pol.mark ∧ since ≤ e.tick then { p with decode := .hunt e.tick, edges := [] }
      else { p with decode := .waitMark since, edges := [] } := by
  simp only [Sampler.settle, hd, Sampler.huntFrom, he]
  by_cases h : e.level = pol.mark ∧ since ≤ e.tick
  · simp [h.1, h.2]
  · rw [if_neg h, List.dropWhile_cons_of_pos (by
      simp only [Bool.not_eq_true', Bool.and_eq_false_iff, decide_eq_false_iff_not]
      tauto), ← hd]
    rfl

/-- R78: a start edge in hand takes its edges as they come. -/
theorem settle_started {p : Sampler} {t per : Nat}
    (hd : p.decode = .sampling t per ∨ p.decode = .spaceHeld t per) (pol : Polarity) :
    p.settle pol = p := by
  rcases hd with hd | hd <;> simp only [Sampler.settle, hd]

/-- R44: the dormant timer's instant, in ticks. -/
theorem dormantStart_eq (s : State) (c : Channel) :
    s.dormantStart c =
      if (s.chan c).config.dormantS = 0 then none
      else some (s.time.ticks + (s.chan c).config.dormantS * 48000000) := by
  simp only [State.dormantStart, ticksPerSecond]

/-- R44, R74: a decoding channel that has got an edge, its sampler left with `decode` and
`edges`. -/
def Chan.edgeUsed (k : Chan) (level : Level) (dormant : Option Nat) (decode : Decode)
    (edges : List Edge) : Chan :=
  { k with
    sampler :=
      { k.sampler with accepted := level, pendingChange := none, decode := decode, edges := edges }
    ctl := { k.ctl with dormantTimer := dormant } }

/-- R44, R78: an edge of a decoding channel, the sampler settled on it as `decode` and `edges`. -/
theorem decodeEdge_eq {s : State} {c : Channel} {e : Edge} {decode : Decode} {edges : List Edge}
    (h : ({ (s.chan c).sampler.changeAccepted with
        edges := (s.chan c).sampler.edges ++ [e] } : Sampler).settle
          (s.chan c).working.line.polarity =
      { (s.chan c).sampler.changeAccepted with decode := decode, edges := edges }) :
    (s.modSampler c Sampler.changeAccepted).decodeEdge c e =
      s.modChan c fun k =>
        k.edgeUsed (s.chan c).sampler.accepted.other (s.dormantStart c) decode edges := by
  have hdormant : (s.modSampler c Sampler.changeAccepted).dormantStart c = s.dormantStart c := by
    simp only [State.dormantStart, State.modSampler, State.chan_modChan_same]
    rfl
  rw [State.decodeEdge, hdormant, State.modSampler, State.modChan_modChan]
  refine State.modChan_congr ?_
  simp only [Chan.settleSampler, Chan.edgeUsed]
  rw [show ({ (s.chan c).sampler.changeAccepted with
    edges := (s.chan c).sampler.changeAccepted.edges ++ [e] } : Sampler).settle
      (s.chan c).working.line.polarity = _ from h]
  rfl

theorem exec_gatherQuietExpiry {s : State} {c : Channel} {x : Nat} (hr : s.resetAsserted = false)
    (hl : (s.chan c).ctl.lock = .gather) (hx : (s.chan c).ctl.gatherTimer = some x) :
    exec (.gatherQuietExpiry c) s = .next ((s.advanceTo x).gatherExpired c) := by
  rw [show exec (.gatherQuietExpiry c) s = execGatherQuietExpiry c s from rfl,
    execGatherQuietExpiry, whileRunning_running hr]
  simp only [hl, hx]

/-- Settles O51: the edge by lock state and decode state, and the end of a gather. -/
theorem edgesAreUsedByLockState : Obligations.EdgesAreUsedByLockState := by
  intro s c hr k level joined
  refine ⟨?_, fun x hl hx => ?_⟩
  · intro d hd at_ filter
    have hlevel : k.sampler.accepted.other = level := by
      simp only [level]
      cases k.sampler.accepted <;> rfl
    have hother : level.other = k.sampler.accepted := by
      rw [← hlevel]
      cases k.sampler.accepted <;> rfl
    have hself : at_.chan c = k := State.chan_advanceTo ..
    have hfilter : at_.modSampler c Sampler.changeAccepted = at_.modSampler c filter :=
      State.modChan_congr (by
        rw [hself]
        simp only [Sampler.changeAccepted, filter, hlevel])
    have hedge := exec_filteredEdge_pending hr hd
    rw [show s.advanceTo (d + (s.chan c).config.glitchLimit) = at_ from rfl, deliverEdge_eq, hself]
      at hedge
    refine ⟨fun hl => ?_, fun hl => ?_, fun last hl hlast => ?_, fun hl => ?_⟩
    · rcases hl with hl | hl | hl | hl <;> rw [hl] at hedge <;>
        exact hedge.trans (by rw [← hfilter])
    · rw [hl] at hedge
      refine hedge.trans (congrArg _ ?_)
      rw [hfilter, State.modSampler, State.gatherStart, State.modChan_modChan]
      refine State.modChan_congr ?_
      rw [hself]
      simp only [Sampler.captureFirst, hlevel, hother]
      rfl
    · rw [hl] at hedge
      have hstored (lock : LockState) (timer : Option Nat) :
          ({ k with
            sampler := k.sampler.changeAccepted.captureNext
              { tick := d, level := k.sampler.accepted.other }
            ctl := { k.ctl with lock := lock, gatherTimer := timer } } : Chan) =
          { k with
            sampler :=
              { filter k.sampler with
                ring :=
                  k.sampler.ring ++ [{ level := level, interval := min 16777215 (d - last) }]
                lastCapture := some d }
            ctl := { k.ctl with lock := lock, gatherTimer := timer } } := by
        simp only [Sampler.captureNext, Sampler.changeAccepted, filter, hlevel, hlast]
        rfl
      have hctl : ((at_.modSampler c Sampler.changeAccepted).chan c).ctl = k.ctl ∧
          ((at_.modSampler c Sampler.changeAccepted).chan c).sampler.ring = k.sampler.ring := by
        rw [State.modSampler, State.chan_modChan_same, hself]
        exact ⟨rfl, rfl⟩
      rw [gatherNext_eq, hctl.1, hctl.2, State.modSampler, State.modChan_modChan,
        State.modChan_modChan] at hedge
      refine ⟨fun hlen => ?_, fun hlen => ?_⟩
      · rw [if_neg (by omega)] at hedge
        refine hedge.trans (congrArg _ (State.modChan_congr ?_))
        rw [hself]
        refine (hstored k.ctl.lock _).trans ?_
        rw [hl]
        rfl
      · rw [if_pos hlen] at hedge
        refine hedge.trans (congrArg _ (congrArg (State.queuedLast · c) (State.modChan_congr ?_)))
        rw [hself]
        exact hstored .queued none
    · intro used pol
      have hdecoding : exec (.filteredEdge c) s =
          .next ((at_.modSampler c Sampler.changeAccepted).decodeEdge c
            { tick := d, level := k.sampler.accepted.other }) := by
        rcases hl with hl | hl | hl <;> rw [hl] at hedge <;> exact hedge
      have hused {decode : Decode} {edges : List Edge}
          (h : ({ k.sampler.changeAccepted with
              edges := k.sampler.edges ++ [{ tick := d, level := level }] } : Sampler).settle pol =
            { k.sampler.changeAccepted with decode := decode, edges := edges }) :
          exec (.filteredEdge c) s = .next (used decode edges) := by
        rw [hdecoding, decodeEdge_eq (s := at_) (decode := decode) (edges := edges)]
        · refine congrArg _ (State.modChan_congr ?_)
          rw [hself, hlevel, dormantStart_eq, hself]
          rfl
        · rw [hself, hlevel]
          exact h
      refine ⟨fun since hh he => ?_, fun t per hh => hused ?_, fun since hh he => ?_⟩
      · have hsettle := settle_hunt (p := { k.sampler.changeAccepted with
          edges := k.sampler.edges ++ [{ tick := d, level := level }] }) (pol := pol) hh
          (by rw [he]; rfl)
        split_ifs with hstart
        · exact hused (hsettle.trans (if_pos hstart))
        · exact hused (hsettle.trans (if_neg hstart))
      · exact settle_started (p := { k.sampler.changeAccepted with
          edges := k.sampler.edges ++ [{ tick := d, level := level }] }) hh pol
      · have hsettle := settle_waitMark (p := { k.sampler.changeAccepted with
          edges := k.sampler.edges ++ [{ tick := d, level := level }] }) (pol := pol) hh
          (by rw [he]; rfl)
        split_ifs with hback
        · exact hused (hsettle.trans (if_pos hback))
        · exact hused (hsettle.trans (if_neg hback))
  · rw [exec_gatherQuietExpiry hr hl hx]
    refine ⟨fun hlen => congrArg _ ((if_pos ?_).trans rfl), fun hlen => congrArg _ (if_neg ?_)⟩
    · rw [State.chan_advanceTo]
      exact hlen
    · rw [State.chan_advanceTo]
      exact Nat.not_le.2 hlen

end Sys2Proof.Machine
end

section
/-! The expiries of a decoding channel: gap, holdover and dormant (R43, R44, R89, R91, R92). -/

namespace Sys2Proof.Machine

/-! ### The releases (R43, R44) -/

@[simp] theorem time_closing (s : State) (c : Channel) (cause : Cause) (t : BitVec 32) :
    (s.closing c cause t).time = s.time := by
  cases h : (s.chan c).openRecord? with
  | none => rw [State.closing_of_none h]
  | some r => rw [State.closing_of_open h]; rfl

/-- R42, R44: the work of a decoding channel undone, at a QUIET entry. -/
theorem Chan.leaveDecoding_enterQuiet {k : Chan} (h : k.ctl.lock.decoding = true) (now : Nat) :
    k.leaveDecoding.enterQuiet now =
      { k.workUndone with
        ctl := { k.workUndone.ctl with lock := .quiet }
        sampler := { k.workUndone.sampler.captureCleared with quietReference := now } } := by
  simp only [Chan.workUndone, h, if_true]
  rfl

/-- R43, R44: a release in one write of the channel. -/
theorem releaseChannel_eq {s : State} {c : Channel} (h : (s.chan c).ctl.lock.decoding = true)
    (cause : Cause) (reason : ReleaseReason) :
    s.releaseChannel c cause reason =
      ((s.closing c cause s.deviceNow).modChan c fun k =>
        { k.workUndone with
          ctl := { k.workUndone.ctl with lock := .quiet }
          sampler := { k.workUndone.sampler.captureCleared with quietReference := s.time.ticks }
          stats := { k.stats with releases := min 4294967295 (k.stats.releases + 1) } }).postChan c
        .released (.released reason) := by
  have hnow : (s.closing c cause s.deviceNow).now = s.time.ticks := by
    rw [State.now, time_closing]
  have hlock : ((s.closing c cause s.deviceNow).chan c).ctl.lock.decoding = true := by
    rw [ctl_closing]
    exact h
  rw [State.releaseChannel, closeRecord_eq, hnow, State.modStats, State.modChan_modChan]
  refine congrArg (fun t => State.postChan t c .released (.released reason))
    (State.modChan_congr ?_)
  rw [Chan.leaveDecoding_enterQuiet hlock]
  rfl

theorem exec_holdoverExpiry {s : State} {c : Channel} {x : Nat} (hr : s.resetAsserted = false)
    (hl : (s.chan c).ctl.lock = .degraded) (hx : (s.chan c).ctl.holdoverTimer = some x) :
    exec (.holdoverExpiry c) s =
      .next ((s.advanceTo x).releaseChannel c .lockLoss .holdover) := by
  rw [show exec (.holdoverExpiry c) s = execHoldoverExpiry c s from rfl, execHoldoverExpiry,
    whileRunning_running hr]
  simp only [hl, hx]

theorem exec_dormantExpiry {s : State} {c : Channel} {x : Nat} (hr : s.resetAsserted = false)
    (hl : (s.chan c).ctl.lock.decoding = true) (hx : (s.chan c).ctl.dormantTimer = some x) :
    exec (.dormantExpiry c) s = .next ((s.advanceTo x).releaseChannel c .dormant .dormant) := by
  rw [show exec (.dormantExpiry c) s = execDormantExpiry c s from rfl, execDormantExpiry,
    whileRunning_running hr]
  simp only [hl, hx]

/-- Settles O60: either expiry is a release of a channel that decodes. -/
theorem expiriesReleaseTheChannel : Obligations.ExpiriesReleaseTheChannel := by
  intro s c x i cause reason hr k hi at_
  have hrelease (hl : k.ctl.lock.decoding = true)
      (h : exec i s = .next (at_.releaseChannel c cause reason)) := h.trans (congrArg _
    (releaseChannel_eq (s := at_) (c := c) ((State.chan_advanceTo ..).symm ▸ hl) cause reason))
  rcases hi with ⟨rfl, rfl, rfl, hl, hx⟩ | ⟨rfl, rfl, rfl, hl, hx⟩
  · exact hrelease (by rw [hl]; rfl) (exec_holdoverExpiry hr hl hx)
  · have hdecoding : k.ctl.lock.decoding = true := by
      rcases hl with hl | hl | hl <;> rw [hl] <;> rfl
    exact hrelease hdecoding (exec_dormantExpiry hr hdecoding hx)

/-! ### The gap expiry (R89, R92) -/

theorem exec_gapExpiry_waits {s : State} {c : Channel} (hr : s.resetAsserted = false)
    (h : (s.chan c).gapReady = none) : exec (.gapExpiry c) s = .next s := by
  rw [show exec (.gapExpiry c) s = execGapExpiry c s from rfl, execGapExpiry,
    whileRunning_running hr]
  simp only [h]

theorem exec_gapExpiry_ready {s : State} {c : Channel} {x : Instant} (hr : s.resetAsserted = false)
    (h : (s.chan c).gapReady = some x) :
    exec (.gapExpiry c) s = .next ((s.advanceTo ((s.chan c).gapMoment x)).takeGap c x) := by
  rw [show exec (.gapExpiry c) s = execGapExpiry c s from rfl, execGapExpiry,
    whileRunning_running hr]
  simp only [h]

/-- R92: in BETWEEN, and in ALIGNING under DELIM, a taken expiry stops the timer alone. -/
theorem takeGap_between {s : State} {c : Channel}
    (h : (s.chan c).framer.state = .idle ∨ (s.chan c).framer.state = .between ∨
      ((s.chan c).framer.state = .aligning ∧ (s.chan c).working.framing.mode = .delim))
    (x : Instant) :
    s.takeGap c x = s.modFramer c fun f => { f with gapTimer := none } := by
  rcases h with h | h | ⟨h, hm⟩
  · simp only [State.takeGap, State.modFramer, State.chan_modChan_same, h]
  · simp only [State.takeGap, State.modFramer, State.chan_modChan_same, h]
  · simp only [State.takeGap, State.modFramer, State.chan_modChan_same, h, hm]

/-- R89, R92: in ALIGNING under GAP and LENGTH a taken expiry is the boundary. -/
theorem takeGap_aligning {s : State} {c : Channel} (h : (s.chan c).framer.state = .aligning)
    (hm : (s.chan c).working.framing.mode ≠ .delim) (x : Instant) :
    s.takeGap c x = (s.modFramer c fun f => { f with gapTimer := none }).boundaryFound c := by
  cases hmode : (s.chan c).working.framing.mode with
  | delim => exact absurd hmode hm
  | gap => simp only [State.takeGap, State.modFramer, State.chan_modChan_same, h, hmode]
  | length => simp only [State.takeGap, State.modFramer, State.chan_modChan_same, h, hmode]

/-- R92, R99: a taken expiry closes the open record. -/
theorem takeGap_inRecord {s : State} {c : Channel} {r : OpenRecord}
    (h : (s.chan c).framer.state = .inRecord r) (x : Instant) :
    s.takeGap c x = (s.modFramer c fun f => { f with gapTimer := none }).closing c .gap
      (BitVec.ofNat 32 (x.num / x.den / 48)) := by
  simp only [State.takeGap, State.modFramer, State.chan_modChan_same, h, closeRecord_eq]
  rfl

/-- R91: the gap timer's instant as a number of ticks. -/
theorem gapFrom_value (w : WorkingProfile) {x : Instant} (hn : 0 < w.nominal) (hd : 0 < x.den)
    (hg : w.framing.gapLimit ≠ 0) :
    ∃ y, gapFrom w x = some y ∧ 0 < y.den ∧
      (y.num : Rat) / y.den =
        x.num / x.den + w.framing.gapLimit * w.line.format.charBits * (48000000 / w.nominal) := by
  refine ⟨_, if_pos (decide_eq_true hg), Nat.mul_pos hd hn, ?_⟩
  have hn' : (w.nominal : Rat) ≠ 0 := by exact_mod_cast hn.ne'
  have hd' : (x.den : Rat) ≠ 0 := by exact_mod_cast hd.ne'
  simp only [ticksPerSecond]
  push_cast
  field_simp

/-- Settles O59: an expiry waits or is taken, and the gap timer's instant is exact. -/
theorem gapExpiryActsByFramerState : Obligations.GapExpiryActsByFramerState := by
  refine ⟨fun s c x hr => ?_, fun w x hn hd => ⟨fun hg => if_neg ?_, fun hg =>
    gapFrom_value w hn hd hg⟩⟩
  · intro k at_ hx
    have hself : at_.chan c = k := State.chan_advanceTo ..
    refine ⟨fun hw => ?_, fun hw => ?_⟩
    · exact exec_gapExpiry_waits hr (gapReady_waits hx hw)
    · have htaken (hf : k.framer.state ≠ .idle) :
          exec (.gapExpiry c) s = .next (at_.takeGap c x) :=
        exec_gapExpiry_ready hr (gapReady_ready hx hf hw)
      refine ⟨fun h => ?_, fun h hm => ?_, fun r h => ?_⟩
      · rw [htaken (by rcases h with h | ⟨h, -⟩ <;> simp [h]),
          takeGap_between (.inr (by rwa [hself]))]
      · rw [htaken (by simp [h]), takeGap_aligning (by rwa [hself]) (by rwa [hself]),
          boundaryFound_eq, State.modFramer, State.modChan_modChan, State.chan_modChan_same, hself]
        rfl
      · rw [htaken (by simp [h]), takeGap_inRecord (by rwa [hself])]
  · simp [FramingFields.gapRuns, hg]

end Sys2Proof.Machine
end

section
/-! A gap expiry that was held on a start edge, false starts, and breaks (R79, R81, R82,
R92, R98). -/

namespace Sys2Proof.Machine

/-! ### A held gap expiry (R92) -/

theorem gapReady_eq_some {k : Chan} {x : Instant} (h : k.gapReady = some x) :
    k.framer.gapTimer = some x ∧ ¬k.GapWaits x := by
  have ht : k.framer.gapTimer = some x := by
    unfold Chan.gapReady at h
    split at h <;> simp_all
  exact ⟨ht, fun hw => by simp [gapReady_waits ht hw] at h⟩

/-- R92: an expiry that waits, or whose moment is to come, is not taken. -/
theorem takeHeldGap_waits {s : State} {c : Channel}
    (h : ∀ y, (s.chan c).framer.gapTimer = some y →
      (s.chan c).GapWaits y ∨ s.time.ticks < (s.chan c).gapMoment y) : s.takeHeldGap c = s := by
  cases hready : (s.chan c).gapReady with
  | none => simp only [State.takeHeldGap, hready]
  | some x =>
    obtain ⟨ht, hw⟩ := gapReady_eq_some hready
    simp only [State.takeHeldGap, hready]
    exact if_neg (Nat.not_le.2 ((h x ht).resolve_left hw))

/-- R92: GAP_EXPIRY takes an expiry whose moment has come as the other commands do. -/
theorem exec_gapExpiry_due {s : State} {c : Channel} {y : Instant} (hr : s.resetAsserted = false)
    (ht : (s.chan c).framer.gapTimer = some y) (hdue : (s.chan c).gapMoment y ≤ s.time.ticks) :
    exec (.gapExpiry c) s = .next (s.takeHeldGap c) := by
  cases hready : (s.chan c).gapReady with
  | none =>
    rw [exec_gapExpiry_waits hr hready]
    simp only [State.takeHeldGap, hready]
  | some x =>
    obtain rfl : y = x := Option.some.inj (ht.symm.trans (gapReady_eq_some hready).1)
    rw [exec_gapExpiry_ready hr hready, advanceTo_past hdue]
    simp only [State.takeHeldGap, hready]
    exact congrArg _ (if_pos hdue).symm

/-- What a gap expiry leaves as it was, of channel `c` and of the device. -/
structure State.GapKeeps (c : Channel) (s u : State) : Prop where
  sampler : (u.chan c).sampler = (s.chan c).sampler
  config : (u.chan c).config = (s.chan c).config
  line : (u.chan c).working.line = (s.chan c).working.line
  time : u.time = s.time
  running : u.resetAsserted = s.resetAsserted

theorem State.gapKeeps_closing (s : State) (c : Channel) (cause : Cause) (t : BitVec 32) :
    State.GapKeeps c s (s.closing c cause t) where
  sampler := sampler_closing ..
  config := (State.workOn_closing s c cause t).chan.config
  line := by
    cases h : (s.chan c).openRecord? with
    | none => rw [State.closing_of_none h]
    | some r =>
      rw [State.closing_of_open h]
      simp only [State.chan_mk, State.getElem_chans, State.chan_modChan_same]
      rw [Chan.closing_of_open h, Chan.updated_line]
  time := time_closing ..
  running := resetAsserted_closing ..

/-- R92: the timer of a channel whose expiry is taken has stopped. -/
theorem gapTimer_closing {s : State} {c : Channel} (h : (s.chan c).framer.gapTimer = none)
    (cause : Cause) (t : BitVec 32) :
    ((s.closing c cause t).chan c).framer.gapTimer = none := by
  cases hr : (s.chan c).openRecord? with
  | none => rwa [State.closing_of_none hr]
  | some r =>
    rw [State.closing_of_open hr]
    simp only [State.chan_mk, State.getElem_chans, State.chan_modChan_same]
    rw [Chan.closing_of_open hr, Chan.updated_eq]
    split
    · simp only [Chan.applyBetween, Framer.reframed, h, ite_self]
    · exact h

/-- R92: what a taken expiry does, by framer state and mode. -/
theorem takeGap_cases (s : State) (c : Channel) (x : Instant) :
    let stopped := s.modFramer c fun f => { f with gapTimer := none }
    s.takeGap c x = stopped ∨ s.takeGap c x = stopped.boundaryFound c ∨
      s.takeGap c x = stopped.closing c .gap x.time := by
  intro stopped
  cases hf : (s.chan c).framer.state with
  | idle => exact .inl (takeGap_between (.inl hf) x)
  | between => exact .inl (takeGap_between (.inr (.inl hf)) x)
  | aligning =>
    by_cases hm : (s.chan c).working.framing.mode = .delim
    · exact .inl (takeGap_between (.inr (.inr ⟨hf, hm⟩)) x)
    · exact .inr (.inl (takeGap_aligning hf hm x))
  | inRecord r => exact .inr (.inr (takeGap_inRecord hf x))

theorem State.gapKeeps_takeGap (s : State) (c : Channel) (x : Instant) :
    State.GapKeeps c s (s.takeGap c x) ∧ ((s.takeGap c x).chan c).framer.gapTimer = none := by
  have hstopped : State.GapKeeps c s (s.modFramer c fun f => { f with gapTimer := none }) := by
    constructor <;> simp [State.modFramer]
  have hnone : ((s.modFramer c fun f => { f with gapTimer := none }).chan c).framer.gapTimer =
      none := by
    simp [State.modFramer]
  rcases takeGap_cases s c x with h | h | h <;> rw [h]
  · exact ⟨hstopped, hnone⟩
  · rw [boundaryFound_eq]
    constructor
    · constructor <;> simp [State.modFramer]
    · simp [State.modFramer]
  · obtain ⟨hs, hc, hl, ht, hr⟩ :=
      State.gapKeeps_closing (s.modFramer c fun f => { f with gapTimer := none }) c .gap x.time
    exact ⟨⟨hs.trans hstopped.sampler, hc.trans hstopped.config, hl.trans hstopped.line,
      ht.trans hstopped.time, hr.trans hstopped.running⟩, gapTimer_closing hnone ..⟩

/-- R92: a held expiry is taken or not. -/
theorem takeHeldGap_cases (s : State) (c : Channel) :
    s.takeHeldGap c = s ∨ ∃ x, s.takeHeldGap c = s.takeGap c x := by
  unfold State.takeHeldGap
  split
  · split
    · exact .inr ⟨_, rfl⟩
    · exact .inl rfl
  · exact .inl rfl

theorem State.gapKeeps_takeHeldGap (s : State) (c : Channel) :
    State.GapKeeps c s (s.takeHeldGap c) := by
  rcases takeHeldGap_cases s c with h | ⟨x, h⟩ <;> rw [h]
  · exact ⟨rfl, rfl, rfl, rfl, rfl⟩
  · exact (State.gapKeeps_takeGap s c x).1

/-- R92: an expiry taken is not taken again. -/
theorem takeHeldGap_takeHeldGap (s : State) (c : Channel) :
    (s.takeHeldGap c).takeHeldGap c = s.takeHeldGap c := by
  rcases takeHeldGap_cases s c with h | ⟨x, h⟩ <;> rw [h]
  · exact h
  · exact takeHeldGap_waits fun y hy =>
      absurd ((State.gapKeeps_takeGap s c x).2.symm.trans hy) (by simp)

/-- R92: an instant that no tick from `t` on precedes has come by `t`. -/
theorem ceil_le_of_after_false {y : Instant} {t : Nat} (h : y.after t = false) : y.ceil ≤ t := by
  simp only [Instant.after, decide_eq_false_iff_not, Nat.not_lt] at h
  rcases Nat.eq_zero_or_pos y.den with hd | hd
  · simp [Instant.ceil, hd]
  · rw [Instant.ceil, ← Nat.lt_succ_iff, Nat.div_lt_iff_lt_mul hd, Nat.succ_mul]
    omega

end Sys2Proof.Machine
end

section
/-! False starts, held spaces and breaks (R79, R81, R82, R98). -/

namespace Sys2Proof.Machine

/-! ### What the sampler has seen by a tick (R72, R81) -/

theorem Sampler.settledAt_iff {p : Sampler} {n : Nat} :
    p.settledAt n = true ↔ ∀ d, p.pendingChange = some d → n < d := by
  unfold Sampler.settledAt
  split <;> simp_all

theorem Sampler.noEdgeBy_iff {p : Sampler} {n : Nat} :
    p.noEdgeBy n = true ↔ ∀ e ∈ p.edges, n < e.tick := by
  simp only [Sampler.noEdgeBy, List.all_eq_true, decide_eq_true_eq]

/-! ### The hunt after a false start (R78, R79) -/

theorem Level.ne_mark_iff {l : Level} {pol : Polarity} : l ≠ pol.mark ↔ l = pol.space := by
  unfold Polarity.space
  cases l <;> cases pol.mark <;> simp [Level.other]

/-- R78: a hunt finds no start edge among edges to mark. -/
theorem huntFrom_marks {p : Sampler} {pol : Polarity}
    (h : ∀ e ∈ p.edges, e.level = pol.mark) (since : Nat) :
    p.huntFrom pol.space since = { p with decode := .hunt since, edges := [] } := by
  have hdrop : (p.edges.dropWhile fun e =>
      !(decide (since < e.tick) && decide (e.level = pol.space))) = [] := by
    rw [List.dropWhile_eq_nil_iff]
    intro e he
    have hne : e.level ≠ pol.space := fun hs => Level.ne_mark_iff.2 hs (h e he)
    simp [hne]
  simp only [Sampler.huntFrom, hdrop]

/-- R78: the first edge to space, if it is dated after the hunt began, is the start edge. -/
theorem huntFrom_space {p : Sampler} {pol : Polarity} {e : Edge} {rest : List Edge} {since : Nat}
    (h : (p.edges.dropWhile fun e => decide (e.level = pol.mark)) = e :: rest)
    (hlt : since < e.tick) :
    p.huntFrom pol.space since =
      { p with decode := .sampling e.tick p.trackedPeriod, edges := rest } := by
  have hdrop (l : List Edge) (hl : (l.dropWhile fun e => decide (e.level = pol.mark)) = e :: rest) :
      (l.dropWhile fun e => !(decide (since < e.tick) && decide (e.level = pol.space))) =
        e :: rest := by
    induction l with
    | nil => simp at hl
    | cons x xs ih =>
      by_cases hx : x.level = pol.mark
      · rw [List.dropWhile_cons_of_pos (by simpa using hx)] at hl
        have hne : x.level ≠ pol.space := fun hs => Level.ne_mark_iff.2 hs hx
        rw [List.dropWhile_cons_of_pos (by simp [hne]), ih hl]
      · rw [List.dropWhile_cons_of_neg (by simpa using hx)] at hl
        obtain ⟨rfl, rfl⟩ := List.cons.inj hl
        exact List.dropWhile_cons_of_neg (by simp [hlt, Level.ne_mark_iff.1 hx])
  simp only [Sampler.huntFrom, hdrop _ h]

/-- R79: a channel with one more false start, its sampler left with `decode` and `edges`. -/
def Chan.startFalse (k : Chan) (decode : Decode) (edges : List Edge) : Chan :=
  { k with
    stats := { k.stats with falseStarts := min 4294967295 (k.stats.falseStarts + 1) }
    sampler := { k.sampler with decode := decode, edges := edges } }

/-- R78, R79: a false start, its hunt left with `decode` and `edges`; then the held gap expiry. -/
theorem falseStart_eq {s : State} {c : Channel} {t : Nat} {decode : Decode} {edges : List Edge}
    (h : (s.chan c).sampler.huntFrom (s.chan c).working.line.polarity.space t =
      { (s.chan c).sampler with decode := decode, edges := edges }) :
    s.falseStart c t = (s.modChan c fun k => k.startFalse decode edges).takeHeldGap c := by
  have hmod : (s.modChan c fun k =>
      { k with
        stats := { k.stats with falseStarts := count32 k.stats.falseStarts 1 }
        sampler := { k.sampler with decode := .hunt t } }.settleSampler) =
      s.modChan c fun k => k.startFalse decode edges := by
    refine State.modChan_congr ?_
    simp only [Chan.startFalse, Chan.settleSampler, Sampler.settle]
    rw [← h]
    rfl
  exact congrArg (State.takeHeldGap · c) hmod

theorem exec_falseStart {s : State} {c : Channel} {t per : Nat} (hr : s.resetAsserted = false)
    (hd : (s.chan c).sampler.decode = .sampling t per)
    (hp : ∀ d, (s.chan c).sampler.pendingChange = some d → startSample t per < d)
    (hmark : levelAt (s.chan c).working.line.polarity.space (s.chan c).sampler.edges
      (startSample t per) = (s.chan c).working.line.polarity.mark) :
    exec (.falseStart c) s =
      .next ((s.advanceTo (startSample t per + (s.chan c).config.glitchLimit)).falseStart c t) := by
  have hsettled := Sampler.settledAt_iff.2 hp
  have hfalse : (s.chan c).startIsFalse t per = true := decide_eq_true hmark
  rw [show exec (.falseStart c) s = execFalseStart c s from rfl, execFalseStart,
    whileRunning_running hr]
  simp only [hd, hsettled, hfalse, Bool.and_self, if_true]
  rfl

/-! ### The last stop-bit sample (R80, R81) -/

/-- R80: the start bit being at space, a character is decided at its last stop-bit sample, or held
with the line at space throughout. -/
theorem exec_characterEvent_sampling {s : State} {c : Channel} {t per last : Nat}
    (hr : s.resetAsserted = false) (hd : (s.chan c).sampler.decode = .sampling t per)
    (hlast : lastSample t per (s.chan c).working.line.format.charBits = last)
    (hp : ∀ d, (s.chan c).sampler.pendingChange = some d → last < d)
    (hspace : levelAt (s.chan c).working.line.polarity.space (s.chan c).sampler.edges
      (startSample t per) = (s.chan c).working.line.polarity.space) :
    exec (.characterEvent c) s =
      .next (if (s.chan c).sampler.noEdgeBy last then
          (s.advanceTo (last + (s.chan c).config.glitchLimit)).holdSpace c t per
        else ((s.advanceTo (last + (s.chan c).config.glitchLimit)).takeHeldGap c).characterEvent c
          t per last) := by
  have hsettled := Sampler.settledAt_iff.2 hp
  have hstart : (s.chan c).startIsFalse t per = false := by
    rw [Chan.startIsFalse, readsMark, hspace]
    exact decide_eq_false fun h => Level.ne_mark_iff.2 rfl h
  rw [show exec (.characterEvent c) s = execCharacterEvent c s from rfl, execCharacterEvent,
    whileRunning_running hr]
  simp only [hd, hlast, hsettled, hstart, Bool.not_false, Bool.and_self, if_true]
  rfl

/-! ### Breaks (R81, R82, R98) -/

theorem exec_breakEvent {s : State} {c : Channel} {t per : Nat} (hr : s.resetAsserted = false)
    (hd : (s.chan c).sampler.decode = .sampling t per ∨
      (s.chan c).sampler.decode = .spaceHeld t per) :
    exec (.breakEvent c) s = .next (s.breakFrom c t per) := by
  rw [show exec (.breakEvent c) s = execBreakEvent c s from rfl, execBreakEvent,
    whileRunning_running hr]
  rcases hd with hd | hd <;> simp only [hd]

/-- R81: a run of space that reaches the break instant `x`. -/
theorem breakFrom_reached {s : State} {c : Channel} {t per : Nat} {x : Instant}
    (hx : breakInstant t per (s.chan c).working.line.format.charBits = x) (hper : 0 < per)
    (he : ∀ e ∈ (s.chan c).sampler.edges, x.num ≤ 256 * e.tick)
    (hp : ∀ d, (s.chan c).sampler.pendingChange = some d → x.num ≤ 256 * d) :
    s.breakFrom c t per =
      ((s.advanceTo (x.ceil + (s.chan c).config.glitchLimit)).takeHeldGap c).breakEvent c x := by
  have hnum : 0 < x.num := by
    rw [← hx]
    exact Nat.add_pos_right _ (Nat.mul_pos (Nat.succ_pos _) hper)
  have hden : x.den = 256 := by rw [← hx]; rfl
  have hreach {n : Nat} (h : x.num ≤ 256 * n) : x.ceil - 1 < n := by
    rw [Instant.ceil, hden]
    omega
  have hedges := Sampler.noEdgeBy_iff.2 fun e h => hreach (he e h)
  have hsettled := Sampler.settledAt_iff.2 fun d h => hreach (hp d h)
  simp only [State.breakFrom, hx, hedges, hsettled, Bool.and_self, if_true, Chan.readingTick]

/-- R98: a break restarts the gap timer and closes the open record, if there is one. -/
theorem frameBreak_eq {s : State} {c : Channel} (h : (s.chan c).framer.state ≠ .idle)
    (x : Instant) :
    s.frameBreak c x = (s.modChan c fun k => k.restartGap x).closing c .brk
      (BitVec.ofNat 32 (x.num / x.den / 48)) := by
  have hopen {f : FramerState} (hf : (s.chan c).framer.state = f) (hne : ∀ r, f ≠ .inRecord r) :
      ((s.modChan c fun k => k.restartGap x).chan c).openRecord? = none := by
    rw [State.chan_modChan_same, Chan.openRecord?_eq_none]
    exact fun r => hf ▸ hne r
  cases hf : (s.chan c).framer.state with
  | idle => exact absurd hf h
  | aligning =>
    rw [State.closing_of_none (hopen hf (by simp))]
    simp only [State.frameBreak, hf]
  | between =>
    rw [State.closing_of_none (hopen hf (by simp))]
    simp only [State.frameBreak, hf]
  | inRecord r =>
    simp only [State.frameBreak, hf, closeRecord_eq]
    rfl

/-- R82, R98: a break closes the open record, if there is one. -/
theorem breakEvent_eq {s : State} {c : Channel} (h : (s.chan c).framer.state ≠ .idle)
    (x : Instant) :
    s.breakEvent c x =
      ((s.modChan c fun k =>
        { k with
          stats := { k.stats with breaks := min 4294967295 (k.stats.breaks + 1) }
          sampler := { k.sampler with decode := .waitMark x.ceil }
          framer := { k.framer with gapTimer := gapFrom k.working x } }).closing c .brk
        (BitVec.ofNat 32 (x.num / x.den / 48))).modChan c Chan.settleSampler := by
  rw [State.breakEvent, frameBreak_eq (by rwa [State.chan_modChan_same]), State.modChan_modChan]
  rfl

/-- Settles O55: a false start with its held gap expiry, a held space, and a break. -/
theorem falseStartsAndBreaksAreNoCharacters : Obligations.FalseStartsAndBreaksAreNoCharacters := by
  intro s c t per hr k pol at_ moment last
  refine ⟨fun hd hp hmark => ?_, fun hd hp he hspace => ?_, fun hper hd he hp => ?_⟩
  · obtain ⟨decode, edges, hfound⟩ : ∃ decode edges,
        k.sampler.huntFrom pol.space t = { k.sampler with decode := decode, edges := edges } := by
      rcases Sampler.huntFrom_cases k.sampler pol.space t with h | ⟨e, rest, h⟩
      · exact ⟨_, _, h⟩
      · exact ⟨_, _, h⟩
    refine ⟨decode, edges, ?_⟩
    intro hunting waits
    have hself : (s.advanceTo (startSample t per + k.config.glitchLimit)).chan c = k :=
      State.chan_advanceTo ..
    have hhunting : hunting.chan c = k.startFalse decode edges := by
      rw [← hself]
      exact State.chan_modChan_same ..
    have hexec : exec (.falseStart c) s = .next (hunting.takeHeldGap c) :=
      (exec_falseStart hr hd hp hmark).trans
        (congrArg _ (falseStart_eq (by rw [hself]; exact hfound)))
    have hgap {y : Instant} (hy : (hunting.chan c).framer.gapTimer = some y) :
        k.framer.gapTimer = some y := by rwa [hhunting] at hy
    have hmoment (y : Instant) :
        (hunting.chan c).gapMoment y = y.ceil + k.config.glitchLimit := by rw [hhunting]; rfl
    refine ⟨fun h => ?_, fun e rest h hlt => ?_, fun h => ?_, fun y hy h => ?_⟩
    · have hq := hfound.symm.trans (huntFrom_marks h t)
      exact ⟨congrArg Sampler.decode hq, congrArg Sampler.edges hq⟩
    · have hq := hfound.symm.trans (huntFrom_space h hlt)
      exact ⟨congrArg Sampler.decode hq, congrArg Sampler.edges hq⟩
    · rw [hexec, takeHeldGap_waits fun y hy => ?_]
      rw [hmoment]
      exact h y (hgap hy)
    · refine ⟨_, exec_gapExpiry_due (y := y) ?_ ?_ ?_, hexec⟩
      · rw [← hr]
        exact State.advanceTo_resetAsserted ..
      · rw [hhunting]
        exact hy
      · rw [hmoment]
        exact Nat.not_lt.1 fun hlt => h (.inr hlt)
  · rw [exec_characterEvent_sampling hr hd rfl hp hspace, if_pos (Sampler.noEdgeBy_iff.2 he)]
    rfl
  · have hself : (s.advanceTo moment).chan c = k := State.chan_advanceTo ..
    have hbreak : exec (.breakEvent c) s =
        .next (((s.advanceTo moment).takeHeldGap c).breakEvent c at_) :=
      (exec_breakEvent hr hd).trans (congrArg _ (breakFrom_reached rfl hper he hp))
    refine ⟨fun y hy ht => ?_, fun hg hf => ?_⟩
    · have hdue : (s.advanceTo moment).time.ticks ≥ y.ceil + k.config.glitchLimit := by
        have hceil := ceil_le_of_after_false ht
        have hstart : t ≤ at_.ceil := by simp only [at_, Instant.ceil]; omega
        rw [advanceTo_ticks]
        simp only [moment]
        omega
      have hkept := State.gapKeeps_takeHeldGap (s.advanceTo moment) c
      have hpast : moment ≤ ((s.advanceTo moment).takeHeldGap c).time.ticks := by
        rw [hkept.time, advanceTo_ticks]
        exact le_max_right ..
      refine ⟨_, exec_gapExpiry_due (by rwa [State.advanceTo_resetAsserted]) (by rwa [hself])
        (by rw [hself]; exact hdue), ?_⟩
      rw [hbreak, exec_breakEvent (t := t) (per := per)
          (by rw [hkept.running, State.advanceTo_resetAsserted, hr])
          (by rw [hkept.sampler, hself]; exact hd),
        breakFrom_reached (x := at_) (by rw [hkept.line, hself]; rfl) hper
          (by rw [hkept.sampler, hself]; exact he) (by rw [hkept.sampler, hself]; exact hp),
        hkept.config, hself, advanceTo_past (s := State.takeHeldGap _ c) hpast,
        takeHeldGap_takeHeldGap]
    · rw [hbreak, takeHeldGap_held (by rw [hself]; exact hd) (by rw [hself]; exact hg),
        breakEvent_eq (by rw [hself]; exact hf)]

end Sys2Proof.Machine
end

section
/-! A character event by framer state (R78, R80 to R82, R89, R91 to R97). -/

namespace Sys2Proof.Machine

/-! ### What a character writes before the framer acts on it (R82, R84, R87, R91) -/

/-- R82, R84, R87: a channel that has got character `x`, back in the hunt. -/
def Chan.judged (k : Chan) (x : Character) (t per since : Nat) : Chan :=
  { k with
    stats := k.stats.countErrors x
    sampler :=
      { k.sampler.addOffset x t per k.working.line.format.charBits with decode := .hunt since } }

/-- R82, R84, R87, R91: a channel that has got character `x`, its gap timer restarted, with its
framer's state and the counts that the framer state concerns. -/
def Chan.heard (k : Chan) (x : Character) (t per since : Nat) (state : FramerState)
    (preamble discarded preambles : Nat) : Chan :=
  { k with
    stats :=
      { k.stats with
        parityErrors :=
          if x.parityOk then k.stats.parityErrors else min 4294967295 (k.stats.parityErrors + 1)
        framingErrors :=
          if x.framingOk then k.stats.framingErrors
          else min 4294967295 (k.stats.framingErrors + 1)
        discardedBeforeAlignment := discarded
        preambleBytes := preambles }
    sampler :=
      { k.sampler with
        decode := .hunt since
        offsetCount :=
          if x.parityOk = true ∧ x.framingOk = true then
            k.sampler.offsetCount +
              (characterOffset k.sampler.edges t per k.working.line.format.charBits).1
          else k.sampler.offsetCount
        offsetSum :=
          if x.parityOk = true ∧ x.framingOk = true then
            k.sampler.offsetSum +
              (characterOffset k.sampler.edges t per k.working.line.format.charBits).2
          else k.sampler.offsetSum }
    framer := { state := state, preamble := preamble, gapTimer := gapFrom k.working x.endInstant } }

/-- The device with other pools. -/
def State.withPools (s : State) (p : Pools) : State := { s with pools := p }

section
variable (x : Character) (t per since : Nat)

/-- R84: the offset of a character counts if it is free of errors. -/
theorem Sampler.addOffset_eq (p : Sampler) (cb : Nat) :
    p.addOffset x t per cb =
      { p with
        offsetCount :=
          if x.parityOk = true ∧ x.framingOk = true then
            p.offsetCount + (characterOffset p.edges t per cb).1
          else p.offsetCount
        offsetSum :=
          if x.parityOk = true ∧ x.framingOk = true then
            p.offsetSum + (characterOffset p.edges t per cb).2
          else p.offsetSum } := by
  by_cases h : x.parityOk = true ∧ x.framingOk = true
  · simp only [Sampler.addOffset, Character.errored, h.1, h.2, and_self, if_true, Bool.not_true,
      Bool.or_self, Bool.false_eq_true, if_false]
  · have herr : x.errored = true := by
      rw [Character.errored, ← Bool.not_and, Bool.not_eq_true', ← Bool.not_eq_true]
      simpa using h
    simp only [Sampler.addOffset, herr, if_true, h, if_false]

/-- R82, R91: the gap timer restarted for a character that has been judged. -/
theorem Chan.judged_restartGap (k : Chan) :
    (k.judged x t per since).restartGap x.endInstant =
      k.heard x t per since k.framer.state k.framer.preamble k.stats.discardedBeforeAlignment
        k.stats.preambleBytes := by
  simp only [Chan.judged, Chan.heard, Sampler.addOffset_eq, Statistics.countErrors]
  rfl

/-- R82: a character event is that of the framer, counted and followed by the next hunt. -/
theorem characterEvent_eq {s u : State} {c : Channel}
    (hx : decodeCharacter (s.chan c).working.line (s.chan c).sampler.edges t per = x)
    (hu : (s.modChan c fun k => k.judged x t per since).frameCharacter c x = u) :
    s.characterEvent c t per since = (u.countCharacter c x).modChan c Chan.settleSampler := by
  subst hx hu
  rfl

variable {s : State} {c : Channel}

/-! ### The framer's part, by its state (R89, R93 to R95) -/

/-- R82, R91: a judged character with the gap timer restarted, the framer in state `f`. -/
theorem modChan_judged_restartGap {f : FramerState} (h : (s.chan c).framer.state = f) :
    ((s.modChan c fun k => k.judged x t per since).modChan c fun k => k.restartGap x.endInstant) =
      s.modChan c fun k => k.heard x t per since f k.framer.preamble
        k.stats.discardedBeforeAlignment k.stats.preambleBytes := by
  rw [State.modChan_modChan]
  refine State.modChan_congr ?_
  rw [Chan.judged_restartGap, h]

theorem framerState_judged {f : FramerState} (h : (s.chan c).framer.state = f) :
    ((s.modChan c fun k => k.judged x t per since).chan c).framer.state = f := by
  rw [State.chan_modChan_same]
  exact h

/-- R89: in ALIGNING a character is discarded; in DELIM mode a delimiter is the boundary. -/
theorem frameCharacter_aligning (h : (s.chan c).framer.state = .aligning)
    {f : FramingFields} (hf : (s.chan c).working.framing = f) {u : State}
    (hu : (s.modChan c fun k => k.heard x t per since .aligning k.framer.preamble
      (min 4294967295 (k.stats.discardedBeforeAlignment + 1)) k.stats.preambleBytes) = u) :
    (s.modChan c fun k => k.judged x t per since).frameCharacter c x =
      if f.mode = .delim ∧ x.value ∈ f.delimiters then u.boundaryFound c else u := by
  have hdiscarded : (s.modChan c fun k => k.heard x t per since .aligning k.framer.preamble
      k.stats.discardedBeforeAlignment k.stats.preambleBytes).modStats c (fun n =>
        { n with discardedBeforeAlignment := count32 n.discardedBeforeAlignment 1 }) = u := by
    rw [← hu, State.modStats, State.modChan_modChan]
    rfl
  have hframing : ((s.modChan c fun k => k.heard x t per since .aligning k.framer.preamble
      k.stats.discardedBeforeAlignment k.stats.preambleBytes).chan c).working.framing = f := by
    rw [State.chan_modChan_same]
    exact hf
  simp only [State.frameCharacter, framerState_judged x t per since h,
    modChan_judged_restartGap x t per since h, State.aligningCharacter, hdiscarded, hframing]

/-- R93: in BETWEEN a character other than the start character is preamble. -/
theorem frameCharacter_preamble (h : (s.chan c).framer.state = .between) {b : Byte}
    (hb : (s.chan c).working.framing.startChar = some b) (hne : x.value ≠ b) :
    (s.modChan c fun k => k.judged x t per since).frameCharacter c x =
      s.modChan c fun k => k.heard x t per since .between (min 65535 (k.framer.preamble + 1))
        k.stats.discardedBeforeAlignment (min 4294967295 (k.stats.preambleBytes + 1)) := by
  have hstart : ((s.modChan c fun k => k.heard x t per since .between k.framer.preamble
      k.stats.discardedBeforeAlignment k.stats.preambleBytes).chan c).working.framing.startChar =
      some b := by
    rw [State.chan_modChan_same]
    exact hb
  simp only [State.frameCharacter, framerState_judged x t per since h,
    modChan_judged_restartGap x t per since h, State.betweenCharacter, hstart, if_neg hne,
    State.modFramer, State.modStats, State.modChan_modChan]
  rfl

/-- R93: in BETWEEN the start character, or with none any character, opens a record. -/
theorem frameCharacter_opens (h : (s.chan c).framer.state = .between) {b : Option Byte}
    (hb : (s.chan c).working.framing.startChar = b) (hopens : b = none ∨ b = some x.value) :
    (s.modChan c fun k => k.judged x t per since).frameCharacter c x =
      (s.modChan c fun k => k.heard x t per since .between k.framer.preamble
        k.stats.discardedBeforeAlignment k.stats.preambleBytes).openRecord c x b.isSome := by
  have hstart : ((s.modChan c fun k => k.heard x t per since .between k.framer.preamble
      k.stats.discardedBeforeAlignment k.stats.preambleBytes).chan c).working.framing.startChar =
      b := by
    rw [State.chan_modChan_same]
    exact hb
  rcases hopens with rfl | rfl
  · simp only [State.frameCharacter, framerState_judged x t per since h,
      modChan_judged_restartGap x t per since h, State.betweenCharacter, hstart, Option.isSome_none]
  · simp only [State.frameCharacter, framerState_judged x t per since h,
      modChan_judged_restartGap x t per since h, State.betweenCharacter, hstart, if_true,
      Option.isSome_some]

/-- R94, R113: the record that a character opens, with a descriptor or dropped. -/
theorem openRecord_eq {g : Bool} {pools : Pools} {r : OpenRecord}
    (hask : s.askDescriptor = (s.withPools pools, g))
    (hr : (s.chan c).openingRecord x g = r) (starts : Bool) :
    s.openRecord c x starts =
      ((s.modFramer c fun f => { f with state := .inRecord r, preamble := 0 }).withPools
        pools).recording c r x starts := by
  have hopen : (((s.modFramer c fun f => { f with state := .inRecord r, preamble := 0 }).withPools
      pools).chan c).openRecord? = some r := by
    rw [State.withPools, State.chan_mk, State.getElem_chans, State.modFramer,
      State.chan_modChan_same, Chan.openRecord?_eq_some]
  rw [← recordCharacter_eq hopen, State.openRecord, hask, ← hr]
  rfl

/-- R94: the first character of a record, which opens with `r`. -/
theorem openRecord_heard {g : Bool} {pools : Pools} {r : OpenRecord}
    {preamble discarded preambles : Chan → Nat} {u : State}
    (hu : (s.modChan c fun k => k.heard x t per since .between (preamble k) (discarded k)
      (preambles k)) = u)
    (hask : u.askDescriptor = (u.withPools pools, g))
    (hr : (u.chan c).openingRecord x g = r) (starts : Bool) :
    u.openRecord c x starts =
      ((s.modChan c fun k => k.heard x t per since (.inRecord r) 0 (discarded k)
        (preambles k)).withPools pools).recording c r x starts := by
  rw [openRecord_eq x hask hr, ← hu, State.modFramer, State.modChan_modChan]
  rfl

/-- R95: a character of the open record. -/
theorem frameCharacter_inRecord {r : OpenRecord} (h : (s.chan c).framer.state = .inRecord r) :
    (s.modChan c fun k => k.judged x t per since).frameCharacter c x =
      (s.modChan c fun k => k.heard x t per since (.inRecord r) k.framer.preamble
        k.stats.discardedBeforeAlignment k.stats.preambleBytes).recording c r x false := by
  have hopen : ((s.modChan c fun k => k.heard x t per since (.inRecord r) k.framer.preamble
      k.stats.discardedBeforeAlignment k.stats.preambleBytes).chan c).openRecord? = some r := by
    rw [State.chan_modChan_same, Chan.openRecord?_eq_some]
    rfl
  simp only [State.frameCharacter, framerState_judged x t per since h,
    modChan_judged_restartGap x t per since h]
  exact recordCharacter_eq hopen x false

end

end Sys2Proof.Machine
end

section
/-! CHARACTER_EVENT, in SAMPLING and in SPACE_HELD (R80 to R82, R92 to R97). -/

namespace Sys2Proof.Machine

theorem Chan.Decides.onStartEdge {k : Chan} {now t per since moment : Nat}
    (h : k.Decides now t per since moment) :
    k.sampler.decode = .sampling t per ∨ k.sampler.decode = .spaceHeld t per :=
  h.imp And.left And.left

/-- A character to be decided stays so at its moment, after a gap expiry. -/
theorem Chan.Decides.kept {k k' : Chan} {now now' t per since moment : Nat}
    (h : k.Decides now t per since moment) (hs : k'.sampler = k.sampler)
    (hc : k'.config = k.config) (hl : k'.working.line = k.working.line)
    (hn : now' = max now moment) : k'.Decides now' t per since moment := by
  simp only [Chan.Decides, hs, hc, hl]
  refine h.imp_right fun ⟨hd, hm, hrest⟩ => ⟨hd, ?_, hrest⟩
  rw [hn, hm, Nat.max_self]

/-- R80 to R82, R92: a character that is to be decided is decided, after a held gap expiry. -/
theorem exec_characterEvent_decides {s : State} {c : Channel} {t per since moment : Nat}
    (hr : s.resetAsserted = false)
    (h : (s.chan c).Decides s.time.ticks t per since moment) :
    exec (.characterEvent c) s =
      .next (((s.advanceTo moment).takeHeldGap c).characterEvent c t per since) := by
  rcases h with ⟨hd, hsince, hm, hp, hspace, e, he, hle⟩ | ⟨hd, hm, hfirst, hlt⟩
  · have hedge : (s.chan c).sampler.noEdgeBy since ≠ true :=
      fun hno => Nat.not_lt.2 hle (Sampler.noEdgeBy_iff.1 hno e he)
    rw [exec_characterEvent_sampling hr hd hsince.symm hp hspace, if_neg hedge, hm]
  · have hafter : (breakInstant t per (s.chan c).working.line.format.charBits).after since = true :=
      decide_eq_true (by rw [Nat.mul_comm since]; exact hlt)
    rw [show exec (.characterEvent c) s = execCharacterEvent c s from rfl, execCharacterEvent,
      whileRunning_running hr, hm, advanceTo_past le_rfl]
    simp only [hd, Sampler.firstEdge, hfirst, hafter, if_true]

/-- R92: a gap expiry that is due before a character is decided is taken first. -/
theorem exec_characterEvent_afterGap {s : State} {c : Channel} {t per since moment : Nat}
    (hr : s.resetAsserted = false) (h : (s.chan c).Decides s.time.ticks t per since moment)
    {y : Instant} (hy : (s.chan c).framer.gapTimer = some y)
    (hdue : (s.chan c).gapMoment y ≤ moment) :
    ∃ u, exec (.gapExpiry c) (s.advanceTo moment) = .next u ∧
      exec (.characterEvent c) s = exec (.characterEvent c) u := by
  have hself : (s.advanceTo moment).chan c = s.chan c := State.chan_advanceTo ..
  have hticks := advanceTo_ticks s moment
  have hkept := State.gapKeeps_takeHeldGap (s.advanceTo moment) c
  have hdecides : (((s.advanceTo moment).takeHeldGap c).chan c).Decides
      ((s.advanceTo moment).takeHeldGap c).time.ticks t per since moment :=
    h.kept (by rw [hkept.sampler, hself]) (by rw [hkept.config, hself])
      (by rw [hkept.line, hself]) (by rw [hkept.time, hticks])
  refine ⟨_, exec_gapExpiry_due (by rwa [State.advanceTo_resetAsserted]) (by rwa [hself])
    (by rw [hself, hticks]; exact hdue.trans (le_max_right ..)), ?_⟩
  rw [exec_characterEvent_decides hr h,
    exec_characterEvent_decides (by rw [hkept.running, State.advanceTo_resetAsserted, hr]) hdecides,
    advanceTo_past (s := State.takeHeldGap _ c)
      (by rw [hkept.time, hticks]; exact le_max_right ..), takeHeldGap_takeHeldGap]

/-- R80 to R82: a character with no gap expiry held on it, the framer's part leaving `u`. -/
theorem exec_characterEvent_eq {s u : State} {c : Channel} {t per since moment : Nat}
    (hr : s.resetAsserted = false) (h : (s.chan c).Decides s.time.ticks t per since moment)
    (hg : ∀ y, (s.chan c).framer.gapTimer = some y → y.after t = true) {x : Character}
    (hx : decodeCharacter (s.chan c).working.line (s.chan c).sampler.edges t per = x)
    (hu : ((s.advanceTo moment).modChan c fun k => k.judged x t per since).frameCharacter c x =
      u) :
    exec (.characterEvent c) s = .next ((u.countCharacter c x).modChan c Chan.settleSampler) := by
  have hself : (s.advanceTo moment).chan c = s.chan c := State.chan_advanceTo ..
  rw [exec_characterEvent_decides hr h,
    takeHeldGap_held (by rw [hself]; exact h.onStartEdge) (by rw [hself]; exact hg),
    characterEvent_eq x t per since (by rw [hself]; exact hx) hu]

/-- R94: the progress of a record that opens, its preamble count given when it has a start
character and some preamble. -/
theorem openingRecord_eq (k : Chan) (x : Character) (g : Bool) :
    k.openingRecord x g =
      { hasDescriptor := g
        startTime := x.startTime
        bytes := []
        lost := 0
        truncated := false
        suspect := decide (k.ctl.lock = .degraded)
        parityErrors := 0
        framingErrors := 0
        firstError := none
        preamble :=
          if k.working.framing.startChar ≠ none ∧ 0 < k.framer.preamble then some k.framer.preamble
          else none
        epoch := k.working.epoch } := by
  simp only [Chan.openingRecord, Bool.and_eq_true, decide_eq_true_eq, Option.isSome_iff_ne_none]

/-- Settles O56: a character is decided, and the framer's part goes by its state. -/
theorem characterActsByFramerState : Obligations.CharacterActsByFramerState := by
  intro s c t per since moment hr k cb f x sound hdecides
  refine ⟨fun y hy _ hdue _ => exec_characterEvent_afterGap hr hdecides hy hdue, fun hg => ?_⟩
  intro heard answers pre discarded preambles
  have hself : (s.advanceTo moment).chan c = k := State.chan_advanceTo ..
  have hanswers {u : State} (hu : ((s.advanceTo moment).modChan c fun k =>
      k.judged x t per since).frameCharacter c x = u) : answers u :=
    exec_characterEvent_eq hr hdecides hg rfl hu
  have hheard {state : FramerState} {p d n : Chan → Nat} :
      ((s.advanceTo moment).modChan c fun k => k.heard x t per since state (p k) (d k) (n k)) =
        heard state (p k) (d k) (n k) := by
    refine State.modChan_congr ?_
    rw [hself]
    rfl
  refine ⟨fun hf => ⟨fun hb => hanswers ?_, fun hm hx => hanswers ?_⟩,
    fun b hf hb hne => hanswers ?_, fun hf hb => ?_, fun r hf => hanswers ?_⟩
  · rw [frameCharacter_aligning x t per since (f := f) (by rwa [hself]) (by rw [hself]) rfl,
      if_neg hb]
    exact hheard
  · rw [frameCharacter_aligning x t per since (f := f) (by rwa [hself]) (by rw [hself]) rfl,
      if_pos ⟨hm, hx⟩, boundaryFound_eq, State.modChan_modChan, State.chan_modChan_same, hself]
    refine congrArg (State.postChan · c .locked _) ?_
    refine (State.modChan_congr ?_).trans (State.modChan_modChan ..).symm
    rw [hself]
    rfl
  · rw [frameCharacter_preamble x t per since (by rwa [hself]) (by rw [hself]; exact hb) hne]
    exact hheard
  · intro opening begun
    have hopens {g : Bool} {pools : Pools} (hask : ∀ u : State, u.pools = s.pools →
        u.askDescriptor = (u.withPools pools, g)) :
        answers ((begun g pools).recording c (opening g) x f.startChar.isSome) := by
      refine hanswers ?_
      rw [frameCharacter_opens x t per since (by rw [hself]; exact hf) (b := f.startChar)
        (by rw [hself]) hb]
      refine (openRecord_heard x t per since rfl (r := opening g) (pools := pools) (g := g)
        (hask _ (State.advanceTo_pools ..)) ?_ _).trans ?_
      · rw [State.chan_modChan_same, hself]
        exact openingRecord_eq ..
      · exact congrArg (fun u => (State.withPools u pools).recording c (opening g) x _) hheard
    refine ⟨fun hfree => hopens fun u hu => ?_, fun hfree => hopens fun u hu => ?_⟩
    · rw [← hu]
      exact askDescriptor_granted (by rwa [hu])
    · rw [← hu]
      exact askDescriptor_refused (by rwa [hu])
  · rw [frameCharacter_inRecord x t per since (by rw [hself]; exact hf)]
    exact congrArg (State.recording · c r x false) hheard

end Sys2Proof.Machine
end

section
/-! A trial's outcome handed back (R14, R17, R29, R30, R34, R66, R77). -/

namespace Sys2Proof.Machine

/-! ### The nominal period (R77) -/

/-- R77: the nominal period is the nearest to the exact one. -/
theorem nominalPeriod_nearest {n : Nat} (h : n ≠ 0) :
    (2 * nominalPeriod n - 1) * n ≤ 2 * 256 * 48000000 ∧
      2 * 256 * 48000000 ≤ (2 * nominalPeriod n + 1) * n := by
  have hn := Nat.pos_of_ne_zero h
  have hN : ticksPerSecond * 256 = 256 * 48000000 := by norm_num [ticksPerSecond]
  have hdiv := Nat.div_add_mod (256 * 48000000) n
  have hmod := Nat.mod_lt (256 * 48000000) hn
  have hcases : (nominalPeriod n = 256 * 48000000 / n ∧ 2 * (256 * 48000000 % n) ≤ n) ∨
      (nominalPeriod n = 256 * 48000000 / n + 1 ∧ n ≤ 2 * (256 * 48000000 % n)) := by
    unfold nominalPeriod
    rw [hN]
    dsimp only
    split
    · exact .inl ⟨rfl, by omega⟩
    · split
      · exact .inr ⟨rfl, by omega⟩
      · split
        · exact .inr ⟨rfl, by omega⟩
        · exact .inl ⟨rfl, by omega⟩
  generalize 256 * 48000000 / n = q at *
  generalize 256 * 48000000 % n = r at *
  have hlow (p : Nat) : (2 * p - 1) * n = 2 * (n * p) - n := by
    rw [Nat.sub_mul, Nat.one_mul, Nat.mul_assoc, Nat.mul_comm p]
  have hhigh (p : Nat) : (2 * p + 1) * n = 2 * (n * p) + n := by ring
  rw [hlow, hhigh]
  rcases hcases with ⟨hp, hr⟩ | ⟨hp, hr⟩ <;> rw [hp]
  · omega
  · rw [Nat.mul_succ]
    omega

/-! ### A fit (R14, R17, R29, R34) -/

/-- R15: whether a candidate is not what the working profile has. -/
def Candidate.changes (best : Candidate) (w : WorkingProfile) : Bool :=
  decide (w.line ≠ best.line) || decide (w.nominal ≠ best.nominal)

/-- R14, R15: the epoch once a candidate has been written. -/
def Candidate.epoch (best : Candidate) (w : WorkingProfile) : BitVec 8 :=
  if best.changes w then w.epoch + 1 else w.epoch

/-- R14: the epoch once a candidate has been written. -/
theorem epoch_writeFit (k : Chan) (best : Candidate) :
    (k.writeFit best).working.epoch = best.epoch k.working := by
  simp only [Chan.writeFit, WorkingProfile.written, epochAfter, Candidate.epoch, Candidate.changes,
    and_true, Bool.or_eq_true, decide_eq_true_eq]
  by_cases h : k.working.line = best.line ∧ k.working.nominal = best.nominal
  · simp [h]
  · rw [if_neg h, if_pos (by tauto)]

/-- R14, R17: the working profile after a fit, a framing update applied with it. -/
def Chan.fitted (k : Chan) (best : Candidate) : WorkingProfile :=
  let framing := if k.pendingUpdate then k.given.framing else k.working.framing
  { line := best.line
    nominal := best.nominal
    framing := framing
    confirmed := true
    epoch :=
      if framing = k.working.framing then best.epoch k.working else best.epoch k.working + 1 }

/-- R29, R34: a channel after a fit, under working profile `w`, in ALIGN. -/
def Chan.fitAligning (k : Chan) (w : WorkingProfile) (now : Nat) (dormant : Option Nat)
    (report : TrialReport) : Chan :=
  { k with
    working := w
    pendingUpdate := false
    ctl :=
      { k.ctl with
        lock := .align
        windowChars := 0
        windowErrors := 0
        windowLength := k.config.windowLength
        dormantTimer := dormant
        report := some report }
    sampler :=
      { k.sampler with
        trackedPeriod := nominalPeriod w.nominal
        trackedOffset := 0
        decode := .hunt now
        edges := []
        offsetCount := 0
        offsetSum := 0 }
    framer := { state := .aligning, preamble := 0, gapTimer := none }
    stats := { k.stats with fits := min 4294967295 (k.stats.fits + 1) } }

/-- R17: the working profile of a fit, a framing update that is pending applied. -/
theorem Chan.fitWritten_updated (k : Chan) (best : Candidate) (r : TrialReport) :
    (if (k.fitWritten best r).pendingUpdate then (k.fitWritten best r).applyUpdate
      else k.fitWritten best r) =
      { k.fitWritten best r with working := k.fitted best, pendingUpdate := false } := by
  have hepoch := epoch_writeFit k best
  have hpending : (k.fitWritten best r).pendingUpdate = k.pendingUpdate := rfl
  by_cases hp : k.pendingUpdate = true
  · rw [if_pos (hpending.trans hp)]
    have hfitted : k.fitted best =
        (k.writeFit best).working.written best.line best.nominal k.given.framing true := by
      simp only [Chan.fitted, hp, if_true, WorkingProfile.written, epochAfter, hepoch]
      simp only [Chan.writeFit, WorkingProfile.written, true_and, eq_comm]
    rw [hfitted]
    rfl
  · have hfitted : k.fitted best = (k.writeFit best).working := by
      rw [Chan.fitted, if_neg hp, if_pos rfl, ← hepoch]
      rfl
    rw [if_neg (hpending ▸ hp), hfitted]
    exact congrArg (fun b => ({ k.fitWritten best r with pendingUpdate := b } : Chan))
      (Bool.eq_false_iff.2 hp)

theorem Chan.fitWritten_aligning (k : Chan) (best : Candidate) (r : TrialReport) (now : Nat)
    (dormant : Option Nat) :
    (k.fitWritten best r).aligning now dormant =
      k.fitAligning (k.fitted best) now dormant r := by
  simp only [Chan.aligning, Chan.alignSetUp, Chan.fitWritten_updated]
  rfl

/-- R15, R29: PROFILE is posted when the fit has changed the working profile. -/
theorem profilePosted_writeFit (s : State) (c : Channel) (k : Chan) (best : Candidate) :
    s.profilePosted c k.working.epoch (k.writeFit best).working =
      if best.changes k.working then
        s.postChan c .profile (.profile (best.epoch k.working) best.line)
      else s := by
  have hbit (b : BitVec 8) : b + 1 ≠ b := by bv_omega
  rw [State.profilePosted, epoch_writeFit]
  by_cases h : best.changes k.working = true
  · rw [if_pos h, if_neg (by rw [Candidate.epoch, if_pos h]; exact hbit _)]
    rfl
  · rw [if_neg h, if_pos (by rw [Candidate.epoch, if_neg h])]

/-- The device with the channel `k` fitted and in ALIGN, PROFILE posted for a change. -/
def State.fitAligned (s : State) (c : Channel) (best : Candidate) (r : TrialReport) : State :=
  (if best.changes (s.chan c).working then
      s.postChan c .profile (.profile (best.epoch (s.chan c).working) best.line)
    else s).modChan c fun k =>
      k.fitAligning ((s.chan c).fitted best) s.time.ticks
        (if k.config.dormantS = 0 then none
          else some (s.time.ticks + k.config.dormantS * 48000000)) r

/-- R29, R34: a fit, as one write of the channel and the boundary. -/
theorem trialFit_aligned (s : State) (c : Channel) (r : TrialReport) (best : Candidate) :
    s.trialFit c r best = (s.fitAligned c best r).boundaryIfAtOnce c := by
  rw [trialFit_eq, profilePosted_writeFit]
  refine congrArg (State.boundaryIfAtOnce · c) ?_
  have hwrite : (s.modChan c fun k => (k.fitWritten best r).aligning s.now (s.dormantStart c)) =
      s.modChan c fun k => k.fitAligning ((s.chan c).fitted best) s.time.ticks
        (if k.config.dormantS = 0 then none
          else some (s.time.ticks + k.config.dormantS * 48000000)) r := by
    refine State.modChan_congr ?_
    rw [dormantStart_eq]
    exact Chan.fitWritten_aligning ..
  rw [hwrite, State.fitAligned]
  split_ifs
  · exact (postChan_modChan ..).symm
  · rfl

theorem chan_fitAligned (s : State) (c : Channel) (best : Candidate) (r : TrialReport) :
    (((s.fitAligned c best r).chan c).working = (s.chan c).fitted best) ∧
      ((s.fitAligned c best r).chan c).framer.preamble = 0 := by
  rw [State.fitAligned, State.chan_modChan_same]
  exact ⟨rfl, rfl⟩

/-- R34: a fit waits in ALIGN for its boundary. -/
theorem fitAligned_waits {s : State} {c : Channel} {best : Candidate}
    (h : ¬(((s.chan c).fitted best).framing.mode = .length ∧
      ((s.chan c).fitted best).framing.gapLimit = 0)) (r : TrialReport) :
    (s.fitAligned c best r).boundaryIfAtOnce c = s.fitAligned c best r := by
  rw [State.boundaryIfAtOnce, (chan_fitAligned s c best r).1]
  refine if_neg ?_
  simpa [FramingFields.boundaryAtOnce] using h

/-- R35: a channel whose boundary is found as ALIGN is entered. -/
def Chan.lockedAtOnce (k : Chan) : Chan :=
  { k with
    framer := { k.framer with state := .between }
    ctl := { k.ctl with lock := .locked, retryCount := 0 } }

/-- R34, R35, R89: in LENGTH mode with the guard off the boundary is found at once. -/
theorem fitAligned_atOnce {s : State} {c : Channel} {best : Candidate}
    (hm : ((s.chan c).fitted best).framing.mode = .length)
    (hg : ((s.chan c).fitted best).framing.gapLimit = 0) (r : TrialReport) :
    (s.fitAligned c best r).boundaryIfAtOnce c =
      ((s.fitAligned c best r).modChan c Chan.lockedAtOnce).postChan c .locked
        (.locked ((s.chan c).fitted best).epoch best.nominal best.line.format false) := by
  obtain ⟨hworking, hpreamble⟩ := chan_fitAligned s c best r
  have hatOnce : ((s.chan c).fitted best).framing.boundaryAtOnce = true := by
    simp [FramingFields.boundaryAtOnce, hm, hg]
  rw [State.boundaryIfAtOnce, hworking, if_pos hatOnce, boundaryFound_eq, Chan.lockedValues,
    hworking]
  refine congrArg (State.postChan · c .locked _) (State.modChan_congr ?_)
  simp only [Chan.lockedAtOnce, hpreamble]

/-! ### A failing outcome (R30) -/

/-- R30: a channel with a failed attempt, left in `lock`. -/
def Chan.failedOnce (k : Chan) (report : TrialReport) (lock : LockState) : Chan :=
  { k with
    ctl :=
      { k.ctl with
        report := some report
        retryCount := k.ctl.retryCount + 1
        lock := lock }
    stats := { k.stats with failedTrials := min 4294967295 (k.stats.failedTrials + 1) } }

theorem trialFailed_quiet {s : State} {c : Channel}
    (h : (s.chan c).ctl.retryCount + 1 ≤ (s.chan c).config.retryLimit)
    (hg : (s.chan c).ctl.gatherTimer = none) (r : TrialReport) :
    s.trialFailed c r = s.modChan c fun k =>
      { k.failedOnce r .quiet with
        sampler := { k.sampler.captureCleared with quietReference := s.time.ticks } } := by
  rw [State.trialFailed, retryTest_eq, State.chan_modChan_same, if_pos h, State.modChan_modChan]
  refine State.modChan_congr ?_
  simp only [Chan.failedOnce, Chan.enterQuiet, hg]
  rfl

theorem trialFailed_failed {s : State} {c : Channel}
    (h : (s.chan c).config.retryLimit < (s.chan c).ctl.retryCount + 1) (r : TrialReport) :
    s.trialFailed c r = (s.modChan c fun k => k.failedOnce r .failed).postChan c .failed
      (.failed r.outcome ((s.chan c).ctl.retryCount + 1)) := by
  rw [State.trialFailed, retryTest_eq, State.chan_modChan_same, if_neg (Nat.not_le.2 h),
    State.modChan_modChan]
  rfl

/-! ### The trial handed back (R66) -/

/-- R66: the device with its Trial Unit free. -/
def State.unitFree (s : State) : State := { s with trial := { s.trial with service := none } }

theorem handBack_fit {s : State} {t : Trial} {v : Verdict} {best : Candidate}
    (h : v.chosen = some best) :
    s.handBack t v =
      (s.unitFree.trialFit t.channel (t.report v s.deviceNow) best).takeHead := by
  simp only [State.handBack, h]
  rfl

theorem handBack_failed {s : State} {t : Trial} {v : Verdict} (h : v.chosen = none) :
    s.handBack t v =
      (s.unitFree.trialFailed t.channel (t.report v s.deviceNow)).takeHead := by
  simp only [State.handBack, h]
  rfl

/-- R66: the outcome has left `u`, in which the unit takes the next head. -/
theorem exec_trialComplete {s u : State} {t : Trial} {v : Verdict} (hr : s.resetAsserted = false)
    (ht : s.trial.service = some t) (hv : t.verdict = some v) (hu : s.handBack t v = u.takeHead)
    (hur : u.resetAsserted = false) :
    ∃ w, exec .trialStart u = .next w ∧ exec .trialComplete s = .next w := by
  refine ⟨_, exec_trialStart hur, ?_⟩
  rw [show exec .trialComplete s = execTrialComplete s from rfl, execTrialComplete,
    whileRunning_running hr, ← hu]
  simp only [ht, hv]

theorem resetAsserted_fitAligned (s : State) (c : Channel) (best : Candidate) (r : TrialReport) :
    (s.fitAligned c best r).resetAsserted = s.resetAsserted := by
  unfold State.fitAligned
  split_ifs <;> rfl

/-- Settles O54: a failing outcome by the retry limit, a fit by its framing, and the nearest
period. -/
theorem trialOutcomeIsHandedBack : Obligations.TrialOutcomeIsHandedBack := by
  intro s t v hr ht hv c k report free failedOnce
  refine ⟨fun hno hlimit hg => ?_, fun hno hlimit => ?_, fun best hbest _ => ?_⟩
  · refine exec_trialComplete hr ht hv ?_ hr
    rw [handBack_failed hno, trialFailed_quiet (s := s.unitFree) hlimit hg]
    rfl
  · refine exec_trialComplete hr ht hv ?_ hr
    rw [handBack_failed hno, trialFailed_failed (s := s.unitFree) hlimit]
    rfl
  · intro changed epoch framing fitted aligning
    have haligning : s.unitFree.fitAligned c best report = aligning := rfl
    have hfit {u : State} (hu : (s.unitFree.fitAligned c best report).boundaryIfAtOnce c = u) :
        s.handBack t v = u.takeHead := by
      rw [handBack_fit hbest, trialFit_aligned]
      exact congrArg State.takeHead hu
    have hrunning : aligning.resetAsserted = false := by
      rw [← haligning, resetAsserted_fitAligned]
      exact hr
    refine ⟨fun hb => ?_, fun hm hl => ?_, nominalPeriod_nearest⟩
    · exact exec_trialComplete hr ht hv (hfit (fitAligned_waits (s := s.unitFree) hb report))
        hrunning
    · exact exec_trialComplete hr ht hv
        (hfit (fitAligned_atOnce (s := s.unitFree) hm hl report)) hrunning

end Sys2Proof.Machine
end

section
/-! The arithmetic of the quality window (R77, R84 to R86). -/

namespace Sys2Proof.Machine

/-! ### Rounding toward zero (R77, R85) -/

theorem Truncates.neg {v : Int} {m : Rat} (h : Truncates v m) : Truncates (-v) (-m) := by
  obtain ⟨hpos, hneg⟩ := h
  refine ⟨fun hm => ?_, fun hm => ?_⟩
  · obtain ⟨h1, h2, h3⟩ := hneg (by linarith)
    push_cast
    exact ⟨by omega, by linarith, by linarith⟩
  · obtain ⟨h1, h2, h3⟩ := hpos (by linarith)
    push_cast
    exact ⟨by omega, by linarith, by linarith⟩

theorem truncates_div_of_nonneg {a b : Int} (ha : 0 ≤ a) (hb : 0 < b) :
    Truncates (a / b) ((a : Rat) / b) := by
  have hb' : (0 : Rat) < b := by exact_mod_cast hb
  have hq : 0 ≤ a / b := Int.ediv_nonneg ha hb.le
  have hle : ((a / b : Int) : Rat) ≤ (a : Rat) / b := by
    rw [le_div_iff₀ hb']
    exact_mod_cast Int.ediv_mul_le a hb.ne'
  have hlt : (a : Rat) / b < ((a / b : Int) : Rat) + 1 := by
    rw [div_lt_iff₀ hb']
    exact_mod_cast Int.lt_ediv_add_one_mul_self a hb
  refine ⟨fun _ => ⟨hq, hle, hlt⟩, fun hm => ?_⟩
  have hzero : a / b = 0 := by
    have : ((a / b : Int) : Rat) ≤ 0 := hle.trans hm
    exact le_antisymm (by exact_mod_cast this) hq
  have ha0 : (0 : Rat) ≤ (a : Rat) / b := div_nonneg (by exact_mod_cast ha) hb'.le
  rw [hzero]
  exact ⟨le_rfl, by simpa using hm, by push_cast; linarith⟩

/-- Division of whole numbers that rounds toward zero. -/
theorem truncates_tdiv (a : Int) {b : Int} (hb : 0 < b) :
    Truncates (a.tdiv b) ((a : Rat) / b) := by
  rcases le_total 0 a with ha | ha
  · rw [Int.tdiv_eq_ediv_of_nonneg ha]
    exact truncates_div_of_nonneg ha hb
  · have h := (truncates_div_of_nonneg (a := -a) (by omega) hb).neg
    rw [← Int.tdiv_eq_ediv_of_nonneg (by omega), Int.neg_tdiv, neg_neg] at h
    push_cast at h
    rwa [neg_div, neg_neg] at h

/-- R85: the window offset, rounded toward zero and limited. -/
theorem offsetOf_truncates {n : Nat} (h : n ≠ 0) (sum : Rat) :
    ∃ v, Truncates v (sum * 1000 / n) ∧ offsetOf n sum = max (-127) (min 127 v) := by
  refine ⟨Int.tdiv (sum.num * 1000) ((sum.den : Int) * n), ?_, if_neg h⟩
  have hden : 0 < (sum.den : Int) * n := by
    have := sum.den_pos
    positivity
  have hvalue : sum * 1000 / n = ((sum.num * 1000 : Int) : Rat) / ((sum.den : Int) * n : Int) := by
    have hd : (sum.den : Rat) ≠ 0 := by exact_mod_cast sum.den_pos.ne'
    have hn : (n : Rat) ≠ 0 := by exact_mod_cast h
    conv_lhs => rw [← Rat.num_div_den sum]
    push_cast
    field_simp
  rw [hvalue]
  exact truncates_tdiv _ hden

/-- R77: the tracked offset, rounded toward zero. -/
theorem trackedOffsetOf_truncates (nominal period : Nat) :
    Truncates (trackedOffsetOf nominal period)
      ((((period * nominal : Nat) : Rat) - (256 * 48000000 : Nat)) * 1000 /
        (256 * 48000000 : Nat)) := by
  have h := truncates_tdiv (((period * nominal : Nat) - (12288000000 : Int)) * 1000)
    (b := 12288000000) (by norm_num)
  have hmodel : trackedOffsetOf nominal period =
      (((period * nominal : Nat) - (12288000000 : Int)) * 1000).tdiv 12288000000 := rfl
  rw [hmodel]
  push_cast at h ⊢
  exact h

/-! ### The offset of a character (R84) -/

/-- R84: the sums after one more edge of the character. -/
def offsetAdded (t p cb : Nat) (sums : Nat × Rat) (e : Edge) : Nat × Rat :=
  (sums.1 + (edgeOffset t p cb e).1, sums.2 + (edgeOffset t p cb e).2)

theorem characterOffset_append (edges : List Edge) (e : Edge) (t p cb : Nat) :
    characterOffset (edges ++ [e]) t p cb =
      if t < e.tick ∧ e.tick ≤ lastSample t p cb then
        offsetAdded t p cb (characterOffset edges t p cb) e
      else characterOffset edges t p cb := by
  unfold characterOffset
  rw [List.filter_append, List.foldl_append]
  by_cases h : t < e.tick ∧ e.tick ≤ lastSample t p cb
  · rw [if_pos h, List.filter_cons_of_pos (by simpa using h)]
    rfl
  · rw [if_neg h, List.filter_cons_of_neg (by simpa using h)]
    rfl

/-- R84: the nearest boundary. -/
theorem boundaryNumber_eq {d p k : Nat} (hlow : 2 * k * p ≤ 2 * (256 * d) + p)
    (hhigh : 2 * (256 * d) + p < 2 * (k + 1) * p) : boundaryNumber d p = k := by
  have hcomm (m : Nat) : 2 * m * p = m * (2 * p) := by ring
  rw [hcomm] at hlow hhigh
  exact Nat.div_eq_of_lt_le hlow hhigh

/-- R84: what an edge within the character adds, its nearest boundary being `k`. -/
theorem offsetAdded_eq {t p cb k : Nat} {e : Edge} (h : boundaryNumber (e.tick - t) p = k)
    (sums : Nat × Rat) :
    offsetAdded t p cb sums e =
      if 1 ≤ k ∧ k + 1 ≤ cb then
        (sums.1 + 1, sums.2 + ((256 * (e.tick - t : Nat) : Rat) - k * p) / (k * p))
      else sums := by
  have hin : (1 ≤ k ∧ k ≤ cb - 1) ↔ (1 ≤ k ∧ k + 1 ≤ cb) := by omega
  simp only [offsetAdded, edgeOffset, h, hin]
  split_ifs
  · push_cast
    rfl
  · simp

/-! ### The corrected period (R86) -/

/-- R77: the floor of the period is the first at or above 0.875 of the nominal. -/
theorem periodFloor_spec {n : Nat} (hn : 0 < n) :
    7 * (256 * 48000000) ≤ 8 * n * periodFloor n ∧
      8 * n * periodFloor n < 7 * (256 * 48000000) + 8 * n := by
  have h8 : 0 < 8 * n := by omega
  have hdef : periodFloor n = (7 * (256 * 48000000) + 8 * n - 1) / (8 * n) := by
    simp only [periodFloor, ticksPerSecond]
  have hdiv := Nat.div_add_mod (7 * (256 * 48000000) + 8 * n - 1) (8 * n)
  have hmod := Nat.mod_lt (7 * (256 * 48000000) + 8 * n - 1) h8
  rw [hdef]
  omega

/-- R77: the ceiling of the period is the last at or below 1.125 of the nominal. -/
theorem periodCeiling_spec {n : Nat} (hn : 0 < n) :
    8 * n * periodCeiling n ≤ 9 * (256 * 48000000) ∧
      9 * (256 * 48000000) < 8 * n * periodCeiling n + 8 * n := by
  have h8 : 0 < 8 * n := by omega
  have hdef : periodCeiling n = 9 * (256 * 48000000) / (8 * n) := by
    simp only [periodCeiling, ticksPerSecond]
  have hdiv := Nat.div_add_mod (9 * (256 * 48000000)) (8 * n)
  have hmod := Nat.mod_lt (9 * (256 * 48000000)) h8
  rw [hdef]
  omega

/-- R86: the period is the rounded product, limited. -/
theorem correctedPeriod_eq {period q : Nat} {offset : Int} (ho : -1000 ≤ offset)
    (hlow : 1000 * (2 * (q : Int) - 1) ≤ 2 * (period * (1000 + offset)))
    (hhigh : 2 * (period * (1000 + offset)) < 1000 * (2 * (q : Int) + 1)) (n : Nat) :
    correctedPeriod n period offset = max (periodFloor n) (min (periodCeiling n) q) := by
  have hproduct : ((period * (1000 + offset).toNat : Nat) : Int) = period * (1000 + offset) := by
    push_cast
    rw [Int.toNat_of_nonneg (by omega)]
  have hround : (2 * (period * (1000 + offset).toNat) + 1000) / 2000 = q := by
    rw [← hproduct] at hlow hhigh
    generalize period * (1000 + offset).toNat = m at *
    omega
  simp only [correctedPeriod, hround]

/-- R77, R86: the period below, above and within its range. -/
theorem limitedPeriod_spec {n : Nat} (hn : 0 < n) (hle : n ≤ 3000000) (q : Nat) :
    (8 * n * q < 7 * (256 * 48000000) →
      max (periodFloor n) (min (periodCeiling n) q) = periodFloor n) ∧
    (9 * (256 * 48000000) < 8 * n * q →
      max (periodFloor n) (min (periodCeiling n) q) = periodCeiling n) ∧
    (7 * (256 * 48000000) ≤ 8 * n * q → 8 * n * q ≤ 9 * (256 * 48000000) →
      max (periodFloor n) (min (periodCeiling n) q) = q) := by
  obtain ⟨hf1, hf2⟩ := periodFloor_spec hn
  obtain ⟨hc1, hc2⟩ := periodCeiling_spec hn
  have h8 : 0 < 8 * n := by omega
  have hlt {a b : Nat} (h : 8 * n * a < 8 * n * b) : a < b := Nat.lt_of_mul_lt_mul_left h
  refine ⟨fun h => ?_, fun h => ?_, fun h h' => ?_⟩
  · have := hlt (h.trans_le hf1)
    omega
  · have := hlt (hc1.trans_lt h)
    have := hlt (a := periodFloor n) (b := periodCeiling n + 1) (by rw [Nat.mul_succ]; omega)
    omega
  · have := hlt (a := periodFloor n) (b := q + 1) (by rw [Nat.mul_succ]; omega)
    have := hlt (a := q) (b := periodCeiling n + 1) (by rw [Nat.mul_succ]; omega)
    omega

end Sys2Proof.Machine
end

section
/-! The quality window judged, by lock state (R36 to R41). -/

namespace Sys2Proof.Machine

/-- R36: a channel that has counted character `x` for its window. -/
def Chan.counted (k : Chan) (x : Character) : Chan :=
  { k with
    ctl :=
      { k.ctl with
        windowChars := k.ctl.windowChars + 1
        windowErrors := k.ctl.windowErrors + x.errored.toNat } }

section
variable {s : State} {c : Channel} {x : Character}

theorem countCharacter_within (h : (s.chan c).ctl.windowChars + 1 < (s.chan c).ctl.windowLength) :
    s.countCharacter c x = s.modChan c fun k => k.counted x := by
  unfold State.countCharacter
  exact if_neg (by rw [State.modCtl, State.chan_modChan_same]; exact Nat.not_le.2 h)

theorem countCharacter_ends (h : (s.chan c).ctl.windowLength ≤ (s.chan c).ctl.windowChars + 1) :
    s.countCharacter c x = (s.modChan c fun k => k.counted x).windowEnd c := by
  unfold State.countCharacter
  exact if_pos (by rw [State.modCtl, State.chan_modChan_same]; exact h)

/-- R37: the judgement that passes. -/
theorem judgeWindow_pass {errors : Nat} {offset : Int} {threshold tolerance : Nat}
    (h : errors ≤ threshold ∧ offset.natAbs ≤ 10 * tolerance) :
    judgeWindow errors offset threshold tolerance = .pass := by
  rw [judgeWindow, if_neg (Nat.not_lt.2 h.1), if_neg (Nat.not_lt.2 h.2)]

/-- R37: the judgement that fails, with its reason. -/
theorem judgeWindow_fail {errors : Nat} {offset : Int} {threshold tolerance : Nat}
    (h : ¬(errors ≤ threshold ∧ offset.natAbs ≤ 10 * tolerance)) :
    judgeWindow errors offset threshold tolerance =
      .fail (if threshold < errors then .errors else .drift) := by
  rw [judgeWindow]
  by_cases he : threshold < errors
  · rw [if_pos he, if_pos he]
  · rw [if_neg he, if_neg he, if_pos (by omega)]

/-- R37: a window that passes. -/
theorem windowEnd_pass
    (h : (s.chan c).ctl.windowErrors ≤ (s.chan c).config.errorThreshold ∧
      (s.chan c).sampler.windowOffset.natAbs ≤ 10 * (s.chan c).config.tolerance) :
    s.windowEnd c = (s.windowPass c).modChan c Chan.nextWindow := by
  simp only [State.windowEnd, judgeWindow_pass h]

/-- R37: a window that fails. -/
theorem windowEnd_fail
    (h : ¬((s.chan c).ctl.windowErrors ≤ (s.chan c).config.errorThreshold ∧
      (s.chan c).sampler.windowOffset.natAbs ≤ 10 * (s.chan c).config.tolerance)) :
    s.windowEnd c =
      (s.windowFail c
        (if (s.chan c).config.errorThreshold < (s.chan c).ctl.windowErrors then .errors
          else .drift)
        (s.chan c).ctl.windowErrors (s.chan c).sampler.windowOffset).modChan c
          Chan.nextWindow := by
  simp only [State.windowEnd, judgeWindow_fail h]

/-! ### A window that passes (R38) -/

theorem windowPass_undegraded (h : (s.chan c).ctl.lock ≠ .degraded) :
    s.windowPass c =
      s.modChan c fun k => { k with sampler := k.sampler.corrected k.working.nominal } := by
  unfold State.windowPass
  exact if_neg (by rwa [State.chan_modChan_same])

theorem windowPass_degraded (h : (s.chan c).ctl.lock = .degraded) :
    s.windowPass c =
      (s.modChan c fun k =>
        { k with
          sampler := k.sampler.corrected k.working.nominal
          ctl := { k.ctl with lock := .locked, retryCount := 0, holdoverTimer := none } }).postChan
        c .locked ((s.chan c).lockedValues true) := by
  unfold State.windowPass
  dsimp only
  rw [if_pos (by rwa [State.chan_modChan_same]), State.enterLocked]
  simp only [State.modCtl, State.modChan_modChan, State.chan_modChan_same]
  rfl

/-! ### A window that fails (R39 to R41) -/

variable (reason : FailReason) (errors : Nat) (offset : Int)

theorem windowFail_locked (h : (s.chan c).ctl.lock = .locked) :
    s.windowFail c reason errors offset =
      (s.enterDegraded c).postChan c .degraded (.degraded reason errors offset) := by
  simp only [State.windowFail, h]

theorem windowFail_degraded (h : (s.chan c).ctl.lock = .degraded) :
    s.windowFail c reason errors offset =
      s.postChan c .degraded (.degraded reason errors offset) := by
  simp only [State.windowFail, h]

theorem windowFail_align (h : (s.chan c).ctl.lock = .align) :
    s.windowFail c reason errors offset = (s.modChan c Chan.leaveDecoding).retryTest c := by
  simp only [State.windowFail, h]

/-- R39: an alignment that fails within the retry limit. -/
theorem windowFail_quiet (h : (s.chan c).ctl.lock = .align)
    (hl : (s.chan c).ctl.retryCount + 1 ≤ (s.chan c).config.retryLimit)
    (hg : (s.chan c).ctl.gatherTimer = none) :
    s.windowFail c reason errors offset =
      s.modChan c fun k =>
        { k.leaveDecoding with
          ctl :=
            { k.leaveDecoding.ctl with retryCount := k.ctl.retryCount + 1, lock := .quiet }
          sampler :=
            { k.leaveDecoding.sampler.captureCleared with quietReference := s.time.ticks } } := by
  rw [windowFail_align reason errors offset h, retryTest_eq,
    if_pos (by rw [State.chan_modChan_same]; exact hl), State.modChan_modChan]
  refine State.modChan_congr ?_
  simp only [Chan.enterQuiet, Chan.leaveDecoding, Controller.windowStopped, hg]
  rfl

/-- R39: an alignment that fails beyond the retry limit. -/
theorem windowFail_failed (h : (s.chan c).ctl.lock = .align) {r : TrialReport}
    (hr : (s.chan c).ctl.report = some r)
    (hl : (s.chan c).config.retryLimit < (s.chan c).ctl.retryCount + 1) :
    s.windowFail c reason errors offset =
      (s.modChan c fun k =>
        { k.leaveDecoding with
          ctl :=
            { k.leaveDecoding.ctl with
              retryCount := k.ctl.retryCount + 1, lock := .failed } }).postChan c .failed
        (.failed r.outcome ((s.chan c).ctl.retryCount + 1)) := by
  have hlast : (s.chan c).leaveDecoding.ctl.lastOutcome = r.outcome := by
    rw [show (s.chan c).leaveDecoding.ctl.lastOutcome = (s.chan c).ctl.lastOutcome from rfl,
      Controller.lastOutcome, hr]
  rw [windowFail_align reason errors offset h, retryTest_eq,
    if_neg (by rw [State.chan_modChan_same]; exact Nat.not_le.2 hl), State.modChan_modChan,
    State.chan_modChan_same, hlast]
  rfl

end

/-- Settles O58: the window by its judgement and lock state, and the arithmetic of R84 to R86. -/
theorem qualityWindowIsJudged : Obligations.QualityWindowIsJudged := by
  refine ⟨fun s c x => ?_, fun n sum => ⟨fun h => if_pos h, fun h => offsetOf_truncates h sum⟩,
    fun edges e t p cb hp => ?_, fun nominal period q offset hn hle ho => ?_⟩
  · intro k errors offset good reason restarted cleared corrected
    have hself : (s.modChan c fun k => k.counted x).chan c = k.counted x :=
      State.chan_modChan_same ..
    refine ⟨fun h => ?_, fun h => ⟨fun hg hl => ?_, fun hg hl => ?_, fun hg hl => ?_,
      fun hg hl => ?_, fun hg hl => ?_⟩⟩
    · rw [countCharacter_within h]
      rfl
    · rw [countCharacter_ends h, windowEnd_pass (by rw [hself]; exact hg), windowPass_undegraded,
        State.modChan_modChan, State.modChan_modChan]
      · rfl
      · rw [hself]
        rcases hl with hl | hl <;> exact fun hd => by simp [k, Chan.counted, hl] at hd
    · rw [countCharacter_ends h, windowEnd_pass (by rw [hself]; exact hg),
        windowPass_degraded (by rw [hself]; exact hl), postChan_modChan, State.modChan_modChan,
        State.modChan_modChan, hself]
      rfl
    · rw [countCharacter_ends h, windowEnd_fail (by rw [hself]; exact hg),
        windowFail_locked _ _ _ (by rw [hself]; exact hl), postChan_modChan, State.enterDegraded,
        State.modChan_modChan, State.modChan_modChan, hself]
      refine congrArg (State.postChan · c .degraded _) (State.modChan_congr ?_)
      cases hf : (s.chan c).framer.state <;>
        simp only [Chan.nextWindow, Chan.counted, hf, FramerState.onRecord] <;> rfl
    · rw [countCharacter_ends h, windowEnd_fail (by rw [hself]; exact hg),
        windowFail_degraded _ _ _ (by rw [hself]; exact hl), postChan_modChan,
        State.modChan_modChan, hself]
      rfl
    · intro stopped
      have hends := (countCharacter_ends h).trans (windowEnd_fail (by rw [hself]; exact hg))
      refine ⟨fun hlimit hgather => ?_, fun r hrep hlimit => ?_⟩
      · rw [hends, windowFail_quiet _ _ _ (by rw [hself]; exact hl) (by rw [hself]; exact hlimit)
          (by rw [hself]; exact hgather), State.modChan_modChan, State.modChan_modChan]
        rfl
      · rw [hends, windowFail_failed _ _ _ (by rw [hself]; exact hl) (by rw [hself]; exact hrep)
          (by rw [hself]; exact hlimit), postChan_modChan, State.modChan_modChan,
          State.modChan_modChan, hself]
        rfl
  · refine ⟨rfl, fun h => ?_, fun h1 h2 k hk1 hk2 => ?_⟩
    · rw [characterOffset_append, if_neg (by omega)]
    · rw [characterOffset_append, if_pos ⟨h1, h2⟩, offsetAdded_eq (boundaryNumber_eq hk1 hk2)]
  · intro whole product corrected
    refine ⟨fun hlow hhigh => ?_, trackedOffsetOf_truncates nominal period⟩
    have hq : corrected = max (periodFloor nominal) (min (periodCeiling nominal) q) :=
      correctedPeriod_eq ho hlow hhigh nominal
    obtain ⟨hbelow, habove, hwithin⟩ := limitedPeriod_spec hn hle q
    refine ⟨fun h => ?_, fun h => ?_, fun h h' => hq.trans (hwithin h h')⟩
    · rw [hq, hbelow h]
      exact periodFloor_spec hn
    · rw [hq, habove h]
      exact periodCeiling_spec hn

end Sys2Proof.Machine
end

section
/-! The rate estimate (R54, R55). -/

namespace Sys2Proof.Machine

/-! ### The estimate set in increasing order (R54) -/

theorem insertNat_eq (x : Nat) (l : List Nat) : insertNat x l = l.orderedInsert (· ≤ ·) x := by
  induction l with
  | nil => rfl
  | cons y ys ih => simp only [insertNat, List.orderedInsert, ih]

theorem sortNat_eq (l : List Nat) : sortNat l = l.insertionSort (· ≤ ·) := by
  induction l with
  | nil => rfl
  | cons x xs ih => rw [sortNat, insertNat_eq, ih, List.insertionSort_cons]

theorem sortNat_perm (l : List Nat) : (sortNat l).Perm l := by
  rw [sortNat_eq]
  exact List.perm_insertionSort _ l

theorem sortNat_sorted (l : List Nat) : (sortNat l).Pairwise (· ≤ ·) := by
  rw [sortNat_eq]
  exact List.pairwise_insertionSort _ l

/-- R54: the estimate set, when no interval is beyond the saturated one. -/
theorem estimateSet_eq {ring : List CaptureEntry} (h : ∀ e ∈ ring, e.interval ≤ 16777215) :
    estimateSet ring = sortNat
      (((ring.drop 1).map CaptureEntry.interval).filter fun w => decide (w < 16777215)) := by
  refine congrArg sortNat (List.filter_congr fun w hw => ?_)
  obtain ⟨e, he, rfl⟩ := List.mem_map.1 hw
  have hle := h e (List.mem_of_mem_drop he)
  rw [Bool.eq_iff_iff, bne_iff_ne, decide_eq_true_eq]
  simp only [saturatedInterval]
  omega

/-! ### The first cluster (R55) -/

/-- In an increasing list, the first that satisfies `p` is the least. -/
theorem find?_of_least {p : Nat → Bool} {l : List Nat} {w : Nat} (hl : l.Pairwise (· ≤ ·))
    (hw : w ∈ l) (hp : p w = true) (hleast : ∀ x ∈ l, x < w → p x = false) :
    l.find? p = some w := by
  induction l with
  | nil => simp at hw
  | cons y ys ih =>
    obtain ⟨hy, hys⟩ := List.pairwise_cons.1 hl
    cases hpy : p y with
    | true =>
      rw [List.find?_cons_of_pos hpy]
      rcases List.mem_cons.1 hw with rfl | hmem
      · rfl
      · rcases (hy w hmem).lt_or_eq with hlt | heq
        · exact absurd (hleast y (List.mem_cons_self ..) hlt) (by simp [hpy])
        · rw [heq]
    | false =>
      rw [List.find?_cons_of_neg (by simp [hpy])]
      have hne : w ≠ y := fun h => by simp [← h, hp] at hpy
      exact ih hys ((List.mem_cons.1 hw).resolve_left hne)
        fun x hx => hleast x (List.mem_cons_of_mem _ hx)

theorem clusterOf_perm {set usable : List Nat} (h : set.Perm usable) (tolerance w : Nat) :
    (clusterOf tolerance set w).Perm
      (usable.filter fun x => decide (w ≤ x ∧ x * 100 ≤ w * (100 + tolerance))) := by
  simp only [clusterOf, Bool.decide_and]
  exact h.filter _

/-- R55: the rate of a cluster is 48,000,000 over its mean, to the nearest. -/
theorem rateOfCluster_nearest {cluster : List Nat} (h : 0 < cluster.sum) :
    (2 * rateOfCluster cluster - 1) * cluster.sum ≤ 2 * 48000000 * cluster.length ∧
      2 * 48000000 * cluster.length < (2 * rateOfCluster cluster + 1) * cluster.sum := by
  have hrate : rateOfCluster cluster =
      (2 * 48000000 * cluster.length + cluster.sum) / (2 * cluster.sum) := by
    simp only [rateOfCluster, if_neg h.ne', ticksPerSecond]
  generalize 2 * 48000000 * cluster.length = a at *
  generalize cluster.sum = m at *
  have hdiv := Nat.div_add_mod (a + m) (2 * m)
  have hmod := Nat.mod_lt (a + m) (Nat.mul_pos two_pos h)
  rw [← hrate] at hdiv
  generalize rateOfCluster cluster = r at *
  have hlow : (2 * r - 1) * m = 2 * m * r - m := by
    rw [Nat.sub_mul, Nat.one_mul]
    congr 1
    ring
  have hhigh : (2 * r + 1) * m = 2 * m * r + m := by ring
  omega

/-- Settles O52: the first base of the increasing set is the smallest interval whose cluster
counts. -/
theorem rateEstimateIsTheFirstCluster : Obligations.RateEstimateIsTheFirstCluster := by
  intro tolerance ring usable cluster hring
  have hset : estimateSet ring = sortNat usable := estimateSet_eq hring
  have hperm : (sortNat usable).Perm usable := sortNat_perm usable
  have hcluster (w : Nat) : (clusterOf tolerance (sortNat usable) w).Perm (cluster w) :=
    clusterOf_perm hperm tolerance w
  have hestimate : estimateRate tolerance ring =
      ((sortNat usable).find? fun w =>
        decide (3 ≤ (clusterOf tolerance (sortNat usable) w).length)).map fun w =>
          rateOfCluster (clusterOf tolerance (sortNat usable) w) := by
    rw [estimateRate, firstCluster, hset, List.find?_map, Option.map_map]
    rfl
  refine ⟨fun hnone => ?_, fun w hw hlen hsum hleast => ?_⟩
  · rw [hestimate, List.find?_eq_none.2, Option.map_none]
    intro w hw
    have hlt := hnone w (hperm.mem_iff.1 hw)
    simpa [(hcluster w).length_eq] using hlt
  · have hfind : ((sortNat usable).find? fun w =>
        decide (3 ≤ (clusterOf tolerance (sortNat usable) w).length)) = some w :=
      find?_of_least (sortNat_sorted usable) (hperm.mem_iff.2 hw)
        (by simpa [(hcluster w).length_eq] using hlen)
        (fun x hx hlt => by
          simpa [(hcluster x).length_eq] using hleast x (hperm.mem_iff.1 hx) hlt)
    refine ⟨_, by rw [hestimate, hfind, Option.map_some], ?_⟩
    have hnearest := rateOfCluster_nearest (cluster := clusterOf tolerance (sortNat usable) w)
      (by rwa [(hcluster w).sum_eq])
    rwa [(hcluster w).sum_eq, (hcluster w).length_eq] at hnearest

end Sys2Proof.Machine
end

section
/-! Characters read from the edges of the line (R61, R77, R80 to R82). -/

namespace Sys2Proof.Machine

/-! ### The level of a line that has seen some of its edges -/

/-- The level of a line at `before` until its edges, after those whose tick is `past`. -/
def lineLevel (past : Nat → Bool) (before : Level) (edges : List Edge) : Level :=
  edges.foldl (fun l e => if past e.tick then e.level else l) before

/-- The level that a bit stands for. -/
def Polarity.levelOf (pol : Polarity) (b : Bool) : Level := if b then pol.mark else pol.space

theorem Polarity.levelOf_eq_mark (pol : Polarity) (b : Bool) :
    decide (pol.levelOf b = pol.mark) = b := by
  cases b with
  | false => exact decide_eq_false fun h => Level.ne_mark_iff.2 rfl h
  | true => exact decide_eq_true rfl

theorem levelAt_eq (before : Level) (edges : List Edge) (n : Nat) :
    levelAt before edges n = lineLevel (fun t => decide (t ≤ n)) before edges := by
  simp only [levelAt, lineLevel, decide_eq_true_eq]

theorem lineLevel_cons (past : Nat → Bool) (before : Level) (e : Edge) (edges : List Edge) :
    lineLevel past before (e :: edges) =
      lineLevel past (if past e.tick then e.level else before) edges := rfl

theorem lineLevel_append (past : Nat → Bool) (before : Level) (edges later : List Edge) :
    lineLevel past before (edges ++ later) = lineLevel past (lineLevel past before edges) later :=
  List.foldl_append ..

/-- Edges that are still to come leave the level alone. -/
theorem lineLevel_future {past : Nat → Bool} {edges : List Edge}
    (h : ∀ e ∈ edges, past e.tick = false) (before : Level) :
    lineLevel past before edges = before := by
  induction edges with
  | nil => rfl
  | cons e rest ih =>
    obtain ⟨he, hrest⟩ := List.forall_mem_cons.1 h
    rw [lineLevel_cons, he]
    exact ih hrest

theorem lineEdges_cons (pol : Polarity) (t q i : Nat) (before b : Bool) (rest : List Bool) :
    lineEdges pol t q i before (b :: rest) =
      if b = before then lineEdges pol t q (i + 1) b rest
      else { tick := t + i * q, level := pol.levelOf b } :: lineEdges pol t q (i + 1) b rest := rfl

theorem mem_lineEdges {pol : Polarity} {t q i : Nat} {before : Bool} {bits : List Bool} {e : Edge}
    (h : e ∈ lineEdges pol t q i before bits) : ∃ n, i ≤ n ∧ e.tick = t + n * q := by
  induction bits generalizing i before with
  | nil => simp [lineEdges] at h
  | cons b rest ih =>
    rw [lineEdges_cons] at h
    split_ifs at h
    · obtain ⟨n, hn, he⟩ := ih h
      exact ⟨n, by omega, he⟩
    · rcases List.mem_cons.1 h with rfl | h
      · exact ⟨i, le_rfl, rfl⟩
      · obtain ⟨n, hn, he⟩ := ih h
        exact ⟨n, by omega, he⟩

/-- R77: a line that sends `bits` is read, when `k` of them have begun after the first, at bit
`k`. -/
theorem lineLevel_lineEdges {past : Nat → Bool} {pol : Polarity} {t q i k : Nat} {before : Bool}
    {bits : List Bool} (hk : k < bits.length)
    (hpast : ∀ n, past (t + n * q) = decide (n ≤ i + k)) :
    lineLevel past (pol.levelOf before) (lineEdges pol t q i before bits) =
      pol.levelOf (bits.getD k false) := by
  induction bits generalizing i k before with
  | nil => simp at hk
  | cons b rest ih =>
    have hfirst : lineLevel past (pol.levelOf before) (lineEdges pol t q i before (b :: rest)) =
        lineLevel past (pol.levelOf b) (lineEdges pol t q (i + 1) b rest) := by
      rw [lineEdges_cons]
      split_ifs with hb
      · rw [hb]
      · rw [lineLevel_cons, hpast, if_pos (by simp)]
    rw [hfirst]
    cases k with
    | zero =>
      refine (lineLevel_future (fun e he => ?_) _).trans rfl
      obtain ⟨n, hn, ht⟩ := mem_lineEdges he
      rw [ht, hpast]
      exact decide_eq_false (by omega)
    | succ k =>
      rw [ih (by simpa using hk) fun n => ?_, List.getD_cons_succ]
      rw [hpast, Nat.add_right_comm i 1 k, ← Nat.add_assoc]

/-! ### The bits of a character, by their places -/

theorem map_getD_range (bits rest : List Bool) :
    ((List.range bits.length).map fun k => (bits ++ rest).getD k false) = bits := by
  refine List.ext_getElem (by simp) fun k h1 h2 => ?_
  simp [List.getElem?_append_left h2, h2]

theorem map_getD_range_shift (front bits : List Bool) :
    ((List.range bits.length).map fun k => (front ++ bits).getD (k + front.length) false) =
      bits := by
  refine List.ext_getElem (by simp) fun k h1 h2 => ?_
  simp [List.getElem?_append_right, h2]

/-- R1, R80: without a parity bit there is no parity error, whatever is read. -/
theorem Parity.isError_congr {p : Parity} {b b' : Bool} (h : p.bits = 1 → b' = b) (ones : Nat) :
    p.isError ones b' = p.isError ones b := by
  cases p with
  | none => rfl
  | even | odd | mark | space => rw [h rfl]

end Sys2Proof.Machine
end

section
/-! The sampler's reading of a character (R77, R80 to R82). -/

namespace Sys2Proof.Machine

/-- R77, R80: a bit sample falls within its bit. -/
theorem le_bitSample {t q : Nat} (hq : 2 ≤ q) (n k : Nat) :
    t + n * q ≤ bitSample t (256 * q) k ↔ n ≤ 1 + k := by
  have hexpand : (2 * k + 3) * (256 * q) = 512 * (k * q) + 768 * q := by ring
  rw [bitSample, halfPeriods, Nat.add_le_add_iff_left, hexpand,
    Nat.le_div_iff_mul_le (by norm_num)]
  constructor
  · intro h
    by_contra hlt
    have hmul : (k + 2) * q ≤ n * q := Nat.mul_le_mul_right q (by omega)
    rw [Nat.add_mul] at hmul
    omega
  · intro h
    have hmul : n * q ≤ (1 + k) * q := Nat.mul_le_mul_right q h
    rw [Nat.add_mul] at hmul
    omega

/-- R80: the sample of bit `k` reads it. -/
theorem readsMark_lineEdges {pol : Polarity} {t q k : Nat} {bits : List Bool} (hq : 2 ≤ q)
    (hk : k < bits.length) :
    readsMark pol (lineEdges pol t q 1 false bits) (bitSample t (256 * q) k) =
      bits.getD k false := by
  have hlevel : levelAt pol.space (lineEdges pol t q 1 false bits) (bitSample t (256 * q) k) =
      pol.levelOf (bits.getD k false) := by
    rw [levelAt_eq]
    exact lineLevel_lineEdges (before := false) hk fun n => decide_eq_decide.2 (le_bitSample hq n k)
  rw [readsMark, hlevel]
  exact pol.levelOf_eq_mark _

/-- R80: the samples of a line that sends `bits`. -/
theorem sampleBits_lineEdges {pol : Polarity} {t q : Nat} {bits : List Bool} {places : List Nat}
    (hq : 2 ≤ q) (h : ∀ k ∈ places, k < bits.length) :
    sampleBits pol (lineEdges pol t q 1 false bits) t (256 * q) places =
      places.map fun k => bits.getD k false :=
  List.map_congr_left fun k hk => readsMark_lineEdges hq (h k hk)

/-- R81: before its first edge a line stands at space. -/
theorem readsMark_beforeEdges {pol : Polarity} {edges : List Edge} {n : Nat}
    (h : ∀ e ∈ edges, n < e.tick) : readsMark pol edges n = false := by
  have hlevel : levelAt pol.space edges n = pol.levelOf false := by
    rw [levelAt_eq]
    exact lineLevel_future (fun e he => decide_eq_false (Nat.not_le.2 (h e he))) _
  rw [readsMark, hlevel]
  exact pol.levelOf_eq_mark false

theorem bitSample_le_lastSample {t p k cb : Nat} (h : k + 2 ≤ cb) :
    bitSample t p k ≤ lastSample t p cb := by
  have hmul : (2 * k + 3) * p ≤ (2 * cb - 1) * p := Nat.mul_le_mul_right p (by omega)
  rw [bitSample, lastSample, halfPeriods, halfPeriods]
  omega

theorem valueOfBits_replicate_false (n : Nat) : valueOfBits (List.replicate n false) = 0 := by
  induction n with
  | zero => rfl
  | succ n ih => rw [List.replicate_succ, valueOfBits, ih]; rfl

section
variable {l : LineFields} {t q : Nat} {bits stops : List Bool} {parityBit : Bool}

/-- R80: the data bits of a line that sends a character. -/
theorem dataBitsOf_sent (hq : 2 ≤ q) (hbits : bits.length = l.format.dataBits) (rest : List Bool) :
    dataBitsOf l (lineEdges l.polarity t q 1 false (bits ++ rest)) t (256 * q) = bits := by
  rw [dataBitsOf, ← hbits, sampleBits_lineEdges hq, map_getD_range]
  intro k hk
  rw [List.length_append]
  have := List.mem_range.1 hk
  omega

/-- R80: the parity bit of a line that sends a character. -/
theorem parityBit_sent (hq : 2 ≤ q) (hbits : bits.length = l.format.dataBits)
    (h : l.format.parity.bits = 1) :
    readsMark l.polarity
      (lineEdges l.polarity t q 1 false
        (bits ++ List.replicate l.format.parity.bits parityBit ++ stops))
      (bitSample t (256 * q) l.format.dataBits) = parityBit := by
  rw [readsMark_lineEdges hq (by simp [h, hbits]), ← hbits, h]
  simp

/-- R80: the stop bits of a line that sends a character. -/
theorem stopBits_sent (hq : 2 ≤ q) (hbits : bits.length = l.format.dataBits)
    (hstops : stops.length = l.format.stopBits) :
    sampleBits l.polarity
      (lineEdges l.polarity t q 1 false
        (bits ++ List.replicate l.format.parity.bits parityBit ++ stops)) t (256 * q)
      ((List.range l.format.stopBits).map (· + l.format.dataBits + l.format.parity.bits)) =
      stops := by
  have hfront : (bits ++ List.replicate l.format.parity.bits parityBit).length =
      l.format.dataBits + l.format.parity.bits := by simp [hbits]
  have hread := map_getD_range_shift (bits ++ List.replicate l.format.parity.bits parityBit) stops
  rw [sampleBits_lineEdges hq, List.map_map, ← hstops]
  · rw [hfront] at hread
    simpa only [Function.comp_def, Nat.add_assoc] using hread
  · intro k hk
    obtain ⟨j, hj, rfl⟩ := List.mem_map.1 hk
    have := List.mem_range.1 hj
    rw [List.length_append, hfront]
    omega

end

/-- Settles O16: each sample reads its bit; with no edge each reads space; the end is exact. -/
theorem characterIsReadAtMidBits : Obligations.CharacterIsReadAtMidBits := by
  refine ⟨fun l t q bits stops parityBit hq hbits _ hstops => ?_,
    fun l t per edges hstop hedges => ?_, fun l t per edges => ⟨rfl, rfl, rfl⟩⟩
  · have hdata := dataBitsOf_sent (t := t) hq hbits
      (List.replicate l.format.parity.bits parityBit ++ stops)
    rw [← List.append_assoc] at hdata
    have hparity := Parity.isError_congr (parityBit_sent (t := t) (parityBit := parityBit)
      (stops := stops) hq hbits) (marksIn bits)
    have hend : characterEnd t (256 * q) l.format.charBits =
        { num := 256 * (t + l.format.charBits * q), den := 256 } := by
      rw [characterEnd, periodsAfter]
      congr 1
      ring
    simp only [decodeCharacter, hdata, stopBits_sent hq hbits hstops, hparity, hend]
    rfl
  · have hread {k : Nat} (hk : k + 2 ≤ l.format.charBits) :
        readsMark l.polarity edges (bitSample t per k) = false :=
      readsMark_beforeEdges fun e he => (bitSample_le_lastSample hk).trans_lt (hedges e he)
    have hbits : l.format.charBits = 1 + l.format.dataBits + l.format.parity.bits +
        l.format.stopBits := rfl
    have hdata : dataBitsOf l edges t per = List.replicate l.format.dataBits false :=
      List.eq_replicate_iff.2 ⟨by simp [dataBitsOf, sampleBits], fun b hb => by
        obtain ⟨k, hk, rfl⟩ := List.mem_map.1 hb
        have := List.mem_range.1 hk
        exact hread (by omega)⟩
    have hstops : (sampleBits l.polarity edges t per ((List.range l.format.stopBits).map
        (· + l.format.dataBits + l.format.parity.bits))).all id = false := by
      refine List.all_eq_false.2 ⟨_, List.mem_map_of_mem (List.mem_map_of_mem
        (List.mem_range.2 (show 0 < l.format.stopBits by omega))), ?_⟩
      rw [hread (by omega)]
      exact Bool.false_ne_true
    have hparity := Parity.isError_congr (p := l.format.parity) (b := false)
      (b' := readsMark l.polarity edges (bitSample t per l.format.dataBits))
      (fun _ => hread (by omega)) 0
    have hmarks : marksIn (List.replicate l.format.dataBits false) = 0 := by simp [marksIn]
    simp only [decodeCharacter, hdata, hstops, hmarks, hparity, valueOfBits_replicate_false,
      and_true]
    rfl

end Sys2Proof.Machine
end

section
/-! The candidate list: what is on it, and in which order (R6, R8, R56 to R60). -/

namespace Sys2Proof.Machine

/-! ### Which formats (R1, R6, R8, R59) -/

theorem mem_formatLadder {f : Format} :
    f ∈ formatLadder ↔ 5 ≤ f.dataBits ∧ f.dataBits ≤ 8 ∧ 1 ≤ f.stopBits ∧ f.stopBits ≤ 2 := by
  refine ⟨formatLadder_legal, fun ⟨hd, hd', hs, hs'⟩ => ?_⟩
  obtain ⟨d, p, n⟩ := f
  dsimp only at hd hd' hs hs'
  interval_cases d <;> interval_cases n <;> cases p <;> decide

theorem passesMask_iff {w : Nat} {mask : BitVec w} {bit : Nat} {asGiven : Prop} {g : Bool}
    (h : g = true ↔ asGiven) :
    (if mask = 0 then g else mask.getLsbD bit) = true ↔ passesMask mask bit asGiven := by
  split_ifs with hm
  · exact h.trans ⟨fun hg => ⟨fun _ => hg, fun hne => absurd hm hne⟩, fun hp => hp.1 hm⟩
  · exact ⟨fun hb => ⟨fun h0 => absurd h0 hm, fun _ => hb⟩, fun hp => hp.2 hm⟩

theorem formatPermitted_iff {n : Snapshot} {f : Format} :
    n.PermitsFormat f ↔ f ∈ formatLadder ∧ formatPermitted n.given n.search f = true := by
  rw [mem_formatLadder, Snapshot.PermitsFormat, formatPermitted, Bool.and_eq_true,
    Bool.and_eq_true, dataPermitted, parityPermitted, stopPermitted,
    passesMask_iff beq_iff_eq, passesMask_iff decide_eq_true_iff, passesMask_iff beq_iff_eq]
  tauto

/-- R59: the formats tried are those permitted. -/
theorem mem_formatOrder_iff {n : Snapshot} (hg : n.given.valid = true) {f : Format} :
    f ∈ formatOrder n ↔ n.PermitsFormat f := by
  have hgiven : n.given.format ∈ formatLadder := by
    rw [mem_formatLadder]
    simpa only [LineFields.valid, Bool.and_eq_true, decide_eq_true_eq, and_assoc] using hg
  rw [formatPermitted_iff, formatOrder]
  split_ifs with hp
  · by_cases hf : f = n.given.format
    · subst hf
      exact ⟨fun _ => ⟨hgiven, hp⟩, fun _ => List.mem_cons_self ..⟩
    · simp [hf]
  · simp

/-- R6: the place of a format on the ladder. -/
def Format.ladderRank (f : Format) : Nat :=
  8 * f.parity.rank + 2 * (8 - f.dataBits) + (f.stopBits - 1)

theorem formatLadder_rank : formatLadder.map Format.ladderRank = List.range 40 := by decide

theorem formatLadder_pairwise :
    formatLadder.Pairwise fun f g => f.ladderRank < g.ladderRank := by
  rw [← List.pairwise_map, formatLadder_rank]
  exact List.pairwise_lt_range

/-- R59: the formats are tried in the order of their rank. -/
theorem formatOrder_pairwise (n : Snapshot) :
    (formatOrder n).Pairwise fun f g => n.formatRank f < n.formatRank g := by
  have hrank {f : Format} (hf : f ≠ n.given.format) : n.formatRank f = 1 + f.ladderRank :=
    if_neg hf
  have hother {l : List Format} (hl : l.Sublist formatLadder)
      (hne : ∀ f ∈ l, f ≠ n.given.format) :
      l.Pairwise fun f g => n.formatRank f < n.formatRank g :=
    (formatLadder_pairwise.sublist hl).imp_of_mem fun hf hg hlt => by
      rw [hrank (hne _ hf), hrank (hne _ hg)]
      omega
  rw [formatOrder]
  split_ifs with hp
  · refine List.pairwise_cons.2 ⟨fun g hg => ?_, hother ?_ fun f hf => ?_⟩
    · have hne : g ≠ n.given.format := by simpa using (List.mem_filter.1 hg).2
      rw [hrank hne, Snapshot.formatRank, if_pos rfl]
      omega
    · exact List.filter_sublist.trans List.filter_sublist
    · simpa using (List.mem_filter.1 hf).2
  · exact hother List.filter_sublist fun f hf hgiven => hp (hgiven ▸ (List.mem_filter.1 hf).2)

/-! ### Which polarities (R58) -/

theorem mem_polarityOrder_iff {n : Snapshot} {p : Polarity} :
    p ∈ polarityOrder n ↔ n.search.polaritySearch = true ∨ p = n.given.polarity := by
  unfold polarityOrder
  cases n.search.polaritySearch with
  | false => simp
  | true => cases n.idleLevel <;> cases p <;> simp

theorem polarityOrder_pairwise (n : Snapshot) :
    (polarityOrder n).Pairwise fun p q => n.polarityRank p < n.polarityRank q := by
  unfold polarityOrder
  cases n.search.polaritySearch with
  | false => simp
  | true => cases h : n.idleLevel <;> simp [Snapshot.polarityRank, h]

/-! ### Which rates (R8, R57) -/

theorem withinTolerance_iff {estimate tolerance entry : Nat} :
    withinTolerance estimate tolerance entry = true ↔
      estimate * 100 ≤ entry * 100 + estimate * tolerance ∧
        entry * 100 ≤ estimate * 100 + estimate * tolerance := by
  rw [withinTolerance, Bool.and_eq_true, decide_eq_true_eq, decide_eq_true_eq, Nat.mul_sub,
    Nat.mul_add, Nat.sub_le_iff_le_add]

theorem mem_rateIndices (i : Fin 16) : i ∈ rateIndices := by
  revert i
  decide

/-- R57: the rates tried are those eligible. -/
theorem mem_eligibleRates_iff {n : Snapshot} {estimate : Nat} {i : Fin 16} :
    i ∈ eligibleRates n estimate ↔ n.EligibleRate estimate i := by
  have hmask : i ∈ (if n.search.rateMask = 0 then [n.given.rate]
      else rateIndices.filter fun i => n.search.rateMask.getLsbD i.val) ↔
      passesMask n.search.rateMask i.val (i = n.given.rate) := by
    rw [← passesMask_iff (g := decide (i = n.given.rate)) decide_eq_true_iff]
    split_ifs <;> simp [mem_rateIndices]
  rw [eligibleRates, mem_sortRates, List.mem_filter, withinTolerance_iff, permittedRates,
    List.mem_filter, hmask, bne_iff_ne, Snapshot.EligibleRate]
  tauto

/-- R57: rate `i` is tried before rate `j`. -/
def Snapshot.RateAhead (n : Snapshot) (estimate : Nat) (i j : Fin 16) : Prop :=
  n.distance estimate i < n.distance estimate j ∨
    (n.distance estimate i = n.distance estimate j ∧ i < j)

theorem rateDistance_eq (n : Snapshot) (estimate : Nat) (i : Fin 16) :
    rateDistance n.rates[i.val] estimate = n.distance estimate i := by
  rw [rateDistance, Snapshot.distance]
  omega

theorem insertRate_pairwise {n : Snapshot} {estimate : Nat} {i : Fin 16} {l : List (Fin 16)}
    (hl : l.Pairwise (n.RateAhead estimate)) (hi : ∀ j ∈ l, i < j) :
    (insertRate n.rates estimate i l).Pairwise (n.RateAhead estimate) := by
  induction l with
  | nil => simp [insertRate]
  | cons j js ih =>
    obtain ⟨hj, hjs⟩ := List.pairwise_cons.1 hl
    obtain ⟨hij, hijs⟩ := List.forall_mem_cons.1 hi
    rw [insertRate, rateDistance_eq, rateDistance_eq]
    split_ifs with hle
    · have hahead {y : Fin 16} (hd : n.distance estimate i ≤ n.distance estimate y) (hy : i < y) :
          n.RateAhead estimate i y := hd.lt_or_eq.imp_right fun h => ⟨h, hy⟩
      refine List.pairwise_cons.2 ⟨List.forall_mem_cons.2 ⟨hahead hle hij, fun y hy => ?_⟩, hl⟩
      refine hahead (hle.trans ?_) (hijs y hy)
      rcases hj y hy with h | h
      · exact h.le
      · exact h.1.le
    · refine List.pairwise_cons.2 ⟨fun y hy => ?_, ih hjs hijs⟩
      rcases mem_insertRate.1 hy with rfl | hy
      · exact .inl (Nat.not_le.1 hle)
      · exact hj y hy

theorem sortRates_pairwise {n : Snapshot} {estimate : Nat} {l : List (Fin 16)}
    (hl : l.Pairwise (· < ·)) :
    (sortRates n.rates estimate l).Pairwise (n.RateAhead estimate) := by
  induction l with
  | nil => simp [sortRates]
  | cons i is ih =>
    obtain ⟨hi, his⟩ := List.pairwise_cons.1 hl
    exact insertRate_pairwise (ih his) fun j hj => hi j (mem_sortRates.1 hj)

theorem rateIndices_pairwise : rateIndices.Pairwise (· < ·) := by decide

/-- R57: the rates are tried by nearness, then by index. -/
theorem eligibleRates_pairwise (n : Snapshot) (estimate : Nat) :
    (eligibleRates n estimate).Pairwise (n.RateAhead estimate) := by
  refine sortRates_pairwise (List.Pairwise.filter _ (List.Pairwise.filter _ ?_))
  split_ifs
  · exact List.pairwise_singleton ..
  · exact rateIndices_pairwise.filter _

/-! ### The built part (R57 to R60) -/

theorem mem_built_iff {n : Snapshot} (hg : n.given.valid = true) {r : Nat} {x : Candidate} :
    x ∈ builtCandidates n (some r) ↔
      n.EligibleRate r x.line.rate ∧ x.nominal = n.rates[x.line.rate.val] ∧
        (n.search.polaritySearch = true ∨ x.line.polarity = n.given.polarity) ∧
        n.PermitsFormat x.line.format ∧ n.verifyFirst ≠ some x := by
  rw [← mem_eligibleRates_iff, ← mem_polarityOrder_iff, ← mem_formatOrder_iff hg]
  constructor
  · intro h
    obtain ⟨r', hr, hrate, hformat, hpolarity, hnominal, hfirst⟩ := mem_builtCandidates h
    obtain rfl := Option.some.inj hr
    exact ⟨hrate, hnominal, hpolarity, hformat, hfirst⟩
  · rintro ⟨hrate, hnominal, hpolarity, hformat, hfirst⟩
    refine List.mem_filter.2 ⟨List.mem_flatMap.2 ⟨_, hrate, List.mem_flatMap.2
      ⟨_, hpolarity, List.mem_map.2 ⟨_, hformat, ?_⟩⟩⟩, decide_eq_true hfirst⟩
    rw [← hnominal]

/-- R60: the built part is in the order of R57 to R60. -/
theorem built_pairwise (n : Snapshot) (r : Nat) :
    (builtCandidates n (some r)).Pairwise (n.Ahead r) := by
  refine List.Pairwise.filter _ (List.pairwise_flatMap.2 ⟨fun i _ => ?_, ?_⟩)
  · refine List.pairwise_flatMap.2 ⟨fun p _ => ?_, ?_⟩
    · exact List.pairwise_map.2 ((formatOrder_pairwise n).imp fun h =>
        .inr ⟨rfl, .inr ⟨rfl, .inr ⟨rfl, h⟩⟩⟩)
    · refine (polarityOrder_pairwise n).imp fun h x hx y hy => ?_
      obtain ⟨f, -, rfl⟩ := List.mem_map.1 hx
      obtain ⟨g, -, rfl⟩ := List.mem_map.1 hy
      exact .inr ⟨rfl, .inr ⟨rfl, .inl h⟩⟩
  · refine (eligibleRates_pairwise n r).imp fun h x hx y hy => ?_
    have hrate {i : Fin 16} {z : Candidate} (hz : z ∈ candidatesAt n i) : z.line.rate = i := by
      obtain ⟨p, -, hz⟩ := List.mem_flatMap.1 hz
      obtain ⟨f, -, rfl⟩ := List.mem_map.1 hz
      rfl
    rw [← hrate hx, ← hrate hy] at h
    exact h.imp_right fun ⟨hd, hlt⟩ => ⟨hd, .inl hlt⟩

end Sys2Proof.Machine
end

section
/-! The evaluation of a candidate on a snapshot (R61 to R64). -/

namespace Sys2Proof.Machine

/-! ### The snapshot on its time line (R61) -/

theorem placeEdges_levels (t : Nat) (ring : List CaptureEntry) :
    (placeEdges t ring).map Edge.level = ring.map CaptureEntry.level := by
  induction ring generalizing t with
  | nil => rfl
  | cons e rest ih => simp only [placeEdges, List.map_cons, ih]

theorem placeEdges_length (t : Nat) (ring : List CaptureEntry) :
    (placeEdges t ring).length = ring.length := by
  simpa using congrArg List.length (placeEdges_levels t ring)

/-- R61: an edge stands as far after the first as the intervals up to it add up to. -/
theorem placeEdges_tick {t i : Nat} {ring : List CaptureEntry} (h : i < ring.length) :
    (placeEdges t ring)[i]?.map Edge.tick =
      some (t + (((ring.drop 1).take i).map CaptureEntry.interval).sum) := by
  induction ring generalizing t i with
  | nil => simp at h
  | cons e rest ih =>
    cases i with
    | zero => rfl
    | succ i =>
      have hi : i < rest.length := by simpa using h
      cases rest with
      | nil => simp at hi
      | cons r rs =>
        rw [placeEdges, List.getElem?_cons_succ, ih hi]
        simp [Nat.add_assoc]

/-! ### Half periods (R56, R61) -/

section
variable {x : Candidate} {q t : Nat}

theorem beyondHalves_periods (hq : q * x.nominal = 48000000) (n m : Nat) :
    beyondHalves x.nominal (n * q) m = decide (m < 2 * n) := by
  have hticks : 2 * (n * q) * x.nominal = 2 * n * 48000000 := by rw [← hq]; ring
  rw [beyondHalves, hticks, ticksPerSecond]
  exact decide_eq_decide.2 (Nat.mul_lt_mul_right (by norm_num))

/-- R61: whether an edge comes no later than `m` half periods after the start edge `t`. -/
def Candidate.seenBy (x : Candidate) (t m n : Nat) : Bool := !beyondHalves x.nominal (n - t) m

theorem levelAfter_eq (x : Candidate) (t : Nat) (edges : List Edge) (m : Nat) :
    levelAfter x t edges m = lineLevel (x.seenBy t m) x.line.polarity.space edges := by
  unfold levelAfter lineLevel Candidate.seenBy
  congr 1
  funext l e
  cases beyondHalves x.nominal (e.tick - t) m <;> rfl

theorem seenBy_periods (hq : q * x.nominal = 48000000) (n m : Nat) :
    x.seenBy t m (t + n * q) = decide (2 * n ≤ m) := by
  rw [Candidate.seenBy, Nat.add_sub_cancel_left, beyondHalves_periods hq, ← decide_not]
  exact decide_eq_decide.2 Nat.not_lt

/-- R61: an edge at `n` periods or later is not seen by earlier halves. -/
theorem seenBy_later (hq : q * x.nominal = 48000000) {n m y : Nat} (hy : t + n * q ≤ y)
    (hm : m < 2 * n) : x.seenBy t m y = false := by
  have hperiods := beyondHalves_periods hq n m
  rw [decide_eq_true hm, beyondHalves, decide_eq_true_eq] at hperiods
  rw [Candidate.seenBy, Bool.not_eq_false', beyondHalves, decide_eq_true_eq]
  refine hperiods.trans_le (Nat.mul_le_mul_right _ (Nat.mul_le_mul_left _ ?_))
  omega

/-- R61: with none of the edges seen a sample reads space. -/
theorem marksAt_unseen {edges : List Edge} {m : Nat}
    (h : ∀ e ∈ edges, x.seenBy t m e.tick = false) : marksAt x t edges m = false := by
  rw [marksAt, levelAfter_eq, lineLevel_future h]
  exact x.line.polarity.levelOf_eq_mark false

/-! ### A character that the snapshot holds (R61, R62) -/

variable {bits stops : List Bool} {parityBit : Bool} {later : List Edge}

/-- R61, R62: the sample of bit `k` reads it. -/
theorem marksAt_lineEdges (hq : q * x.nominal = 48000000) {k cb : Nat} (hk : k < bits.length)
    (hcb : k + 2 ≤ cb) (hlater : ∀ y ∈ later, t + cb * q ≤ y.tick) :
    marksAt x t (lineEdges x.line.polarity t q 1 false bits ++ later) (2 * k + 3) =
      bits.getD k false := by
  have hread : lineLevel (x.seenBy t (2 * k + 3)) (x.line.polarity.levelOf false)
      (lineEdges x.line.polarity t q 1 false bits) =
        x.line.polarity.levelOf (bits.getD k false) :=
    lineLevel_lineEdges hk fun n => by
      rw [seenBy_periods hq]
      exact decide_eq_decide.2 (by omega)
  have hunseen : ∀ y ∈ later, x.seenBy t (2 * k + 3) y.tick = false :=
    fun y hy => seenBy_later hq (hlater y hy) (by omega)
  rw [marksAt, levelAfter_eq, lineLevel_append,
    show x.line.polarity.space = x.line.polarity.levelOf false from rfl, hread,
    lineLevel_future hunseen]
  exact x.line.polarity.levelOf_eq_mark _

/-- R62: what is wrong with a character that the line has sent. -/
theorem trialErrored_sent (hq : q * x.nominal = 48000000)
    (hbits : bits.length = x.line.format.dataBits)
    (hstops : stops.length = x.line.format.stopBits)
    (hlater : ∀ y ∈ later, t + x.line.format.charBits * q ≤ y.tick) :
    trialErrored x t
      (lineEdges x.line.polarity t q 1 false
        (bits ++ List.replicate x.line.format.parity.bits parityBit ++ stops) ++ later) =
      (x.line.format.parity.isError (marksIn bits) parityBit || !stops.all id) := by
  have hcb : x.line.format.charBits = 1 + x.line.format.dataBits + x.line.format.parity.bits +
      x.line.format.stopBits := rfl
  have hlen : (bits ++ List.replicate x.line.format.parity.bits parityBit ++ stops).length =
      x.line.format.dataBits + x.line.format.parity.bits + x.line.format.stopBits := by
    rw [List.length_append, List.length_append, List.length_replicate, hbits, hstops]
  have hread {k : Nat} (hk : k < x.line.format.dataBits + x.line.format.parity.bits +
      x.line.format.stopBits) := marksAt_lineEdges (x := x) (t := t) (later := later)
    (bits := bits ++ List.replicate x.line.format.parity.bits parityBit ++ stops)
    hq (hlen ▸ hk) (by omega) hlater
  generalize lineEdges x.line.polarity t q 1 false
    (bits ++ List.replicate x.line.format.parity.bits parityBit ++ stops) ++ later = sent at hread ⊢
  have hdata : ((List.range x.line.format.dataBits).map fun k => marksAt x t sent (2 * k + 3)) =
      bits := by
    rw [List.map_congr_left fun k hk => hread (by have := List.mem_range.1 hk; omega), ← hbits,
      List.append_assoc]
    exact map_getD_range ..
  have hstop : ((List.range x.line.format.stopBits).map fun j =>
      marksAt x t sent (2 * (x.line.format.dataBits + x.line.format.parity.bits + j) + 3)) =
      stops := by
    have hshift := map_getD_range_shift
      (bits ++ List.replicate x.line.format.parity.bits parityBit) stops
    rw [List.length_append, List.length_replicate, hbits, hstops] at hshift
    rw [List.map_congr_left fun j hj => hread (by have := List.mem_range.1 hj; omega)]
    simpa only [Nat.add_comm] using hshift
  have hparity := Parity.isError_congr (p := x.line.format.parity) (b := parityBit)
    (b' := marksAt x t sent (2 * x.line.format.dataBits + 3)) (fun h => by
      rw [hread (by omega), ← hbits, h]
      simp) (marksIn bits)
  simp only [trialErrored, hdata, hstop, hparity]

/-- A line that sends some mark has a first edge, at one of the bits. -/
theorem lineEdges_first {pol : Polarity} {i : Nat} {bits : List Bool} (h : true ∈ bits) :
    ∃ e rest n, lineEdges pol t q i false bits = e :: rest ∧ n < i + bits.length ∧
      e.tick = t + n * q := by
  induction bits generalizing i with
  | nil => simp at h
  | cons b rest ih =>
    cases b with
    | false =>
      obtain ⟨e, tail, n, he, hn, ht⟩ := ih (i := i + 1) (by simpa using h)
      exact ⟨e, tail, n, by rw [lineEdges_cons, if_pos rfl, he],
        by rw [List.length_cons]; omega, ht⟩
    | true => exact ⟨_, _, i, lineEdges_cons .., by simp, rfl⟩

end

end Sys2Proof.Machine
end

section
/-! The phases of a trial, and the hunt of an evaluation (R49, R51, R53, R60 to R65). -/

namespace Sys2Proof.Machine

/-! ### The hunt of an evaluation (R62, R63) -/

section
variable {x : Candidate} {span count : Nat} {bad : Bool} {h : HuntPoint} {e next : Edge}
variable {rest : List Edge}

theorem HuntPoint.admits_iff (h : HuntPoint) {nominal : Nat} (hn : 0 < nominal) (t : Nat) :
    h.admits nominal t = true ↔
      h.anyEdge = true ∨
        (h.base < t ∧ h.halves * 48000000 < 2 * (t - h.base) * nominal) := by
  have hbeyond : beyondHalves nominal (t - h.base) h.halves = true ↔
      h.halves * 48000000 < 2 * (t - h.base) * nominal := by
    rw [beyondHalves, decide_eq_true_iff, ticksPerSecond]
  rw [HuntPoint.admits, Bool.or_eq_true, Bool.and_eq_true, decide_eq_true_iff, Bool.or_eq_true,
    hbeyond, beq_iff_eq]
  refine or_congr_right (and_congr_right fun hlt => or_iff_right_of_imp fun h0 => ?_)
  rw [h0, Nat.zero_mul]
  exact Nat.mul_pos (by omega) hn

/-- R62: an edge that the hunt does not take is passed over. -/
theorem evaluateFrom_skip
    (hs : e.level ≠ x.line.polarity.space ∨ h.admits x.nominal e.tick = false) :
    evaluateFrom x span (e :: rest) h count bad = evaluateFrom x span rest h count bad := by
  rw [evaluateFrom.eq_def]
  exact if_pos hs

/-- R62: a start edge that is the last edge ends the evaluation. -/
theorem evaluateFrom_last : evaluateFrom x span [e] h count bad = (count, bad) := by
  rw [evaluateFrom]
  split_ifs
  · rfl
  · rfl

/-- R62, R63: a start edge is the start of a break, false, that of a character, or ends the
evaluation. -/
theorem evaluateFrom_start (hl : e.level = x.line.polarity.space)
    (ha : h.admits x.nominal e.tick = true) :
    evaluateFrom x span (e :: next :: rest) h count bad =
      if atLeastHalves x.nominal (next.tick - e.tick) (2 * (x.line.format.charBits + 1)) then
        evaluateFrom x span (next :: rest) (huntAfter next.tick) count bad
      else if marksAt x e.tick (next :: rest) 1 then
        evaluateFrom x span (next :: rest) (huntAfter e.tick) count bad
      else if atLeastHalves x.nominal (span - e.tick) (2 * x.line.format.charBits - 1) then
        evaluateFrom x span (next :: rest)
          { base := e.tick, halves := 2 * x.line.format.charBits - 1, anyEdge := false }
          (count + 1) (bad || trialErrored x e.tick (next :: rest))
      else (count, bad) := by
  rw [evaluateFrom]
  exact if_neg fun hs => hs.elim (fun hne => hne hl) fun hno => by simp [ha] at hno

theorem atLeastHalves_iff {nominal d m : Nat} :
    atLeastHalves nominal d m = true ↔ m * 48000000 ≤ 2 * d * nominal := by
  rw [atLeastHalves, decide_eq_true_iff, ticksPerSecond]

theorem seenBy_iff {t m n : Nat} :
    x.seenBy t m n = true ↔ 2 * (n - t) * x.nominal ≤ m * 48000000 := by
  rw [Candidate.seenBy, Bool.not_eq_true', ← Bool.not_eq_true, beyondHalves, decide_eq_true_iff,
    ticksPerSecond, Nat.not_lt]

/-- R63: a run of space as long as a break is skipped. -/
theorem evaluateFrom_break (hl : e.level = x.line.polarity.space)
    (ha : h.admits x.nominal e.tick = true)
    (hrun : (x.line.format.charBits + 1) * 48000000 ≤ (next.tick - e.tick) * x.nominal) :
    evaluateFrom x span (e :: next :: rest) h count bad =
      evaluateFrom x span (next :: rest) (huntAfter next.tick) count bad := by
  rw [evaluateFrom_start hl ha]
  refine if_pos (atLeastHalves_iff.2 ?_)
  rw [Nat.mul_assoc, Nat.mul_assoc]
  exact Nat.mul_le_mul_left 2 hrun

theorem not_break (hrun : (next.tick - e.tick) * x.nominal <
      (x.line.format.charBits + 1) * 48000000) :
    ¬atLeastHalves x.nominal (next.tick - e.tick) (2 * (x.line.format.charBits + 1)) = true := by
  rw [atLeastHalves_iff, Nat.mul_assoc, Nat.mul_assoc]
  omega

/-- R62: after a false start the hunt goes on from it. -/
theorem evaluateFrom_falseStart (hl : e.level = x.line.polarity.space)
    (ha : h.admits x.nominal e.tick = true)
    (hrun : 2 * (next.tick - e.tick) * x.nominal ≤ 48000000)
    (hmark : next.level ≠ x.line.polarity.space)
    (hrest : ∀ y ∈ rest, 48000000 < 2 * (y.tick - e.tick) * x.nominal) :
    evaluateFrom x span (e :: next :: rest) h count bad =
      evaluateFrom x span (next :: rest) (huntAfter e.tick) count bad := by
  have hseen : x.seenBy e.tick 1 next.tick = true := seenBy_iff.2 (by omega)
  have hunseen : ∀ y ∈ rest, x.seenBy e.tick 1 y.tick = false := fun y hy => by
    rw [← Bool.not_eq_true, seenBy_iff]
    have := hrest y hy
    omega
  have hreads : marksAt x e.tick (next :: rest) 1 = true := by
    rw [marksAt, levelAfter_eq, lineLevel_cons, hseen, if_pos rfl, lineLevel_future hunseen]
    exact decide_eq_true (by_contra fun hne => hmark (Level.ne_mark_iff.1 hne))
  rw [evaluateFrom_start hl ha, if_neg (not_break (by rw [Nat.mul_assoc] at hrun; omega)),
    if_pos hreads]

/-- R62: no edge is seen by the middle of the start bit. -/
theorem marksAt_startBit (hnext : 48000000 < 2 * (next.tick - e.tick) * x.nominal)
    (hrest : ∀ y ∈ rest, next.tick ≤ y.tick) :
    marksAt x e.tick (next :: rest) 1 = false := by
  have hfrom {n : Nat} (hn : next.tick ≤ n) : x.seenBy e.tick 1 n = false := by
    rw [← Bool.not_eq_true, seenBy_iff, Nat.one_mul, Nat.not_le]
    refine hnext.trans_le (Nat.mul_le_mul_right _ (Nat.mul_le_mul_left _ ?_))
    omega
  exact marksAt_unseen (List.forall_mem_cons.2 ⟨hfrom le_rfl, fun y hy => hfrom (hrest y hy)⟩)

/-- R62: a character that would run beyond the last edge ends the evaluation. -/
theorem evaluateFrom_beyond (hl : e.level = x.line.polarity.space)
    (ha : h.admits x.nominal e.tick = true)
    (hstart : 48000000 < 2 * (next.tick - e.tick) * x.nominal)
    (hrun : (next.tick - e.tick) * x.nominal < (x.line.format.charBits + 1) * 48000000)
    (hrest : ∀ y ∈ rest, next.tick ≤ y.tick)
    (hspan : 2 * (span - e.tick) * x.nominal < (2 * x.line.format.charBits - 1) * 48000000) :
    evaluateFrom x span (e :: next :: rest) h count bad = (count, bad) := by
  rw [evaluateFrom_start hl ha, if_neg (not_break hrun),
    if_neg (by simp [marksAt_startBit hstart hrest]),
    if_neg (fun hle => Nat.not_lt.2 (atLeastHalves_iff.1 hle) hspan)]

end

/-- R62: a character that the line has sent is counted, and judged. -/
theorem evaluateFrom_sent {x : Candidate} {span count t q : Nat} {bad : Bool} {h : HuntPoint}
    {bits stops : List Bool} {parityBit : Bool} {later : List Edge}
    (hq : q * x.nominal = 48000000) (hbits : bits.length = x.line.format.dataBits)
    (hstops : stops.length = x.line.format.stopBits) (hmark : true ∈ bits ∨ true ∈ stops)
    (hlater : ∀ y ∈ later, t + x.line.format.charBits * q ≤ y.tick)
    (ha : h.admits x.nominal t = true)
    (hspan : (2 * x.line.format.charBits - 1) * q ≤ 2 * (span - t)) {sent : List Edge}
    (hsent : lineEdges x.line.polarity t q 1 false
      (bits ++ List.replicate x.line.format.parity.bits parityBit ++ stops) ++ later = sent) :
    evaluateFrom x span ({ tick := t, level := x.line.polarity.space } :: sent) h count bad =
      evaluateFrom x span sent
        { base := t, halves := 2 * x.line.format.charBits - 1, anyEdge := false } (count + 1)
        (bad || x.line.format.parity.isError (marksIn bits) parityBit || !stops.all id) := by
  have herrored := trialErrored_sent (parityBit := parityBit) hq hbits hstops hlater
  rw [hsent] at herrored
  obtain ⟨next, tail, n, hfirst, hn, hnext⟩ := lineEdges_first (t := t) (q := q)
    (pol := x.line.polarity) (i := 1)
    (bits := bits ++ List.replicate x.line.format.parity.bits parityBit ++ stops)
    (by simp only [List.mem_append]; tauto)
  have hcb : n < x.line.format.charBits + 1 := by
    simp only [List.length_append, List.length_replicate, hbits, hstops] at hn
    simp only [Format.charBits]
    omega
  have hstart : marksAt x t sent 1 = false := by
    rw [← hsent]
    refine marksAt_unseen fun y hy => ?_
    rcases List.mem_append.1 hy with hy | hy
    · obtain ⟨m, hm, ht⟩ := mem_lineEdges hy
      rw [ht, seenBy_periods hq]
      exact decide_eq_false (by omega)
    · exact seenBy_later hq (hlater y hy) (by simp only [Format.charBits]; omega)
  rw [hfirst, List.cons_append] at hsent
  subst hsent
  have hrun : (next.tick - t) * x.nominal < (x.line.format.charBits + 1) * 48000000 := by
    rw [hnext, Nat.add_sub_cancel_left, Nat.mul_assoc, hq]
    omega
  have hfits : atLeastHalves x.nominal (span - t) (2 * x.line.format.charBits - 1) = true := by
    rw [atLeastHalves_iff, ← hq, ← Nat.mul_assoc]
    exact Nat.mul_le_mul_right _ hspan
  rw [evaluateFrom_start rfl ha, if_neg (not_break (e := { tick := t, level := _ }) hrun),
    if_neg (by simp [hstart]), if_pos hfits, herrored, Bool.or_assoc]

/-! ### The phases (R49, R51, R53, R60, R65) -/

theorem exec_rateEstimate {s : State} {t : Trial} (hr : s.resetAsserted = false)
    (ht : s.trial.service = some t) (hc : t.candidates = none) (hv : t.verdict = none) :
    exec .rateEstimate s = .next (s.setTrial t.estimated) := by
  rw [show exec .rateEstimate s = execRateEstimate s from rfl, execRateEstimate,
    whileRunning_running hr]
  simp only [ht, hc, hv, Option.isNone_none, Bool.and_self, if_true]

/-- R53, R60: the trial after its estimate and list phases, by what the list holds. -/
theorem Trial.estimated_eq {t : Trial} (hc : t.candidates = none) (hv : t.verdict = none)
    {estimate : Option Nat} (he : estimateRate t.snapshot.tolerance t.snapshot.ring = estimate)
    {list : List Candidate} (hl : candidateList t.snapshot estimate = list) :
    t.estimated =
      { t with
        estimate := estimate
        candidates := if list = [] ∧ estimate = none then none else some list
        verdict :=
          if list ≠ [] then none
          else if estimate = none then some { outcome := .noRate, chosen := none }
          else some { outcome := .noCandidate, chosen := none } } := by
  subst he
  cases hest : estimateRate t.snapshot.tolerance t.snapshot.ring with
  | none =>
    rw [hest] at hl
    cases list with
    | nil => simp [Trial.estimated, hest, hl, hc]
    | cons x xs => simp [Trial.estimated, hest, hl, hv]
  | some r =>
    rw [hest] at hl
    cases list with
    | nil => simp [Trial.estimated, hest, hl]
    | cons x xs => simp [Trial.estimated, hest, hl, hv]

theorem exec_candidateEvaluated {s : State} {t : Trial} {list : List Candidate} {x : Candidate}
    (hr : s.resetAsserted = false) (ht : s.trial.service = some t)
    (hc : t.candidates = some list) (hv : t.verdict = none) (hx : list[t.position]? = some x) :
    exec .candidateEvaluated s = .next (s.setTrial (t.evaluated x list.length)) := by
  rw [show exec .candidateEvaluated s = execCandidateEvaluated s from rfl, execCandidateEvaluated,
    whileRunning_running hr]
  simp only [ht, hc, hv, hx]

/-- R65: what follows an evaluation that has not fitted. -/
theorem afterMiss_eq (estimate : Option Nat) (done total budget : Nat) :
    afterMiss estimate done total budget =
      if total ≤ done then
        some { outcome := if estimate = none then .noRate else .noFit, chosen := none }
      else if budget ≤ done then some { outcome := .budget, chosen := none }
      else none := by
  cases estimate <;> rfl

/-- Settles O53: the phases, the list, the time line and the hunt. -/
theorem trialPhasesFollowTheirOrder : Obligations.TrialPhasesFollowTheirOrder := by
  refine ⟨fun s hr => ⟨fun c rest hs hq => ?_, fun t ht hc hv => ?_,
      fun t list x ht hc hv hx => ?_⟩,
    fun n estimate => ?_, fun n x => ?_, fun x span count bad h => ?_⟩
  · rw [exec_trialStart hr, takeHead_taken hs hq]
    rfl
  · rw [exec_rateEstimate hr ht hc hv, Trial.estimated_eq hc hv rfl rfl]
  · rw [exec_candidateEvaluated hr ht hc hv hx, Trial.evaluated, afterMiss_eq]
  · intro first list built
    have hlist : list = first ++ builtCandidates n estimate := rfl
    have hbuilt : built = builtCandidates n estimate := by
      rw [show built = list.drop first.length from rfl, hlist, List.drop_left]
    refine ⟨by rw [hlist, List.take_left], fun he => ?_, fun r he hg => ?_⟩
    · rw [hbuilt, he]
      rfl
    · rw [hbuilt, he]
      exact ⟨fun x => mem_built_iff hg, built_pairwise n r⟩
  · intro edges span tested
    refine ⟨?_, placeEdges_levels 0 n.ring, fun i hi => ?_⟩
    · have hfits : fits n x = (decide (n.minCharacters ≤ tested.1) && !tested.2) := rfl
      rw [hfits, Bool.and_eq_true, decide_eq_true_iff, Bool.not_eq_true']
    · have hi' : i < n.ring.length := by rwa [← placeEdges_length 0 n.ring]
      rw [show edges = placeEdges 0 n.ring from rfl, placeEdges_tick hi', Nat.zero_add]
  · intro read cb space second hn
    refine ⟨fun t => h.admits_iff hn t, rfl, fun e rest hs => evaluateFrom_skip hs,
      fun e => evaluateFrom_last, fun e next rest hl ha _ hrest => ?_,
      fun t q bits stops parityBit later hq hbits hstops hmark hlater ha hspan =>
        evaluateFrom_sent hq hbits hstops hmark hlater ha hspan rfl⟩
    exact ⟨fun hrun => evaluateFrom_break hl ha hrun,
      fun hrun hmark hbeyond => evaluateFrom_falseStart hl ha hrun hmark hbeyond,
      fun hstart hrun hspan => evaluateFrom_beyond hl ha hstart hrun hrest hspan⟩

end Sys2Proof.Machine
end
